-- ==== Sys2Proof/Word.lean ====
section
/-! DEFINITION. The word types of the CANJ timing block (spec 00_scope.md R9; 30_encoding.md R111, R114). -/

namespace Sys2Proof

/-- A 32-bit register, data or command word; bit 0 is the least significant (R9). -/
abbrev Word := BitVec 32

/-- A 9-bit bus transaction header `SSWOOOOOO` (R111). -/
abbrev Header := BitVec 9

/-- A byte offset in the 64-byte register window (R81). -/
abbrev Offset := BitVec 6

/-- One byte of an outgoing payload (R177). -/
abbrev Byte := BitVec 8

end Sys2Proof
end

