-- ==== Sys2Proof/Config.lean ====
section
/-! DEFINITION. What is fixed for the block: the parameters of 00_scope.md R7, and the values the spec leaves
open, as constants with no body (free values). -/

namespace Sys2Proof

/-- `PAYLOAD_ORDER` (R7, R177): the byte order of an outgoing payload. -/
inductive PayloadOrder where
  | le
  | be
deriving DecidableEq, Repr, Inhabited

/-- The HPI's answer to a configure or transmit request (60_exceptions.md R277, R278). -/
inductive HpiAnswer where
  | ok
  | err
deriving DecidableEq, Repr, Inhabited

namespace Config

/-- The identity string of the spec, revision 1 (R3). -/
def identity : String := "CANJ-TB-1"

/-- `P_MIN`, the first prescaler tried (R7). -/
abbrev pMin : Nat := 1
/-- `P_MAX`, the last prescaler tried (R7). -/
abbrev pMax : Nat := 1024
/-- `TQ_MAX`, the largest total quanta accepted (R7). -/
abbrev tqMax : Nat := 25
/-- `PS1_MAX`, the largest phase segment 1; `PS1_MIN` is 1 (R7). -/
abbrev ps1Max : Nat := 16
/-- `PS2_MAX`, the largest phase segment 2; `PS2_MIN` is 1 (R7). -/
abbrev ps2Max : Nat := 8
/-- `SYNC_Q`, the sync segment in quanta (R7). -/
abbrev syncQ : Nat := 1
/-- `SP_MIN`, the smallest legal sample-point percent (R7). -/
abbrev spMin : Nat := 1
/-- `SP_MAX`, the largest legal sample-point percent (R7). -/
abbrev spMax : Nat := 99
/-- `ROUND_BIAS` of the half-up rounding (R7). -/
abbrev roundBias : Nat := 50
/-- `ROUND_DIV` of the half-up rounding (R7). -/
abbrev roundDiv : Nat := 100
/-- `DLC_MAX`, the largest data length (R7). -/
abbrev dlcMax : Nat := 8
/-- `STD_ID_BITS`, the standard identifier width (R7). -/
abbrev stdIdBits : Nat := 11
/-- `EXT_ID_BITS`, the extended identifier width (R7). -/
abbrev extIdBits : Nat := 29

/-- `W` of this instance (R7: "16 in this instance"). The machine reads `W` from its state's model arguments;
this is the value `State.reset` gives them. DESIGN CHOICE, log 5. -/
abbrev w : Nat := 16

/-- `PAYLOAD_ORDER` is OPEN in the spec (R7, D12): a free value, log 6. -/
opaque payloadOrder : PayloadOrder

/-- The n-th counter sample that no turn fixes: "a W-bit draw with no law" (R270), log 2. -/
opaque freeSample : Nat → Word

/-- The n-th configure answer that no turn fixes: a draw of OK or ERR (R277), log 3. -/
opaque freeConfigureAnswer : Nat → HpiAnswer

/-- The n-th transmit answer that no turn fixes: a draw of OK or ERR (R278), log 3. -/
opaque freeTransmitAnswer : Nat → HpiAnswer

end Config

end Sys2Proof
end

