-- ==== Sys2Proof/Syntax.lean ====
section
/-! DEFINITION. The operations of the block (30_encoding.md R110): one constructor of `Instr` per row of
spec/opcode_table.json, the registers they name, and the raw forms they are decoded from. -/

namespace Sys2Proof

/-- The operations of the block, one constructor per opcode-table row. A write carries its whole 32-bit data word
(R117); reads, commands and internal steps carry nothing. -/
inductive Instr where
  | wrCtrl (cw : Word)
  | wrClkHz (data : Word)
  | wrBitrateHz (data : Word)
  | wrSpPct (data : Word)
  | wrInterval (data : Word)
  | wrFrameId (data : Word)
  | wrFrameDlc (data : Word)
  | rdStatus
  | rdClkHz
  | rdBitrateHz
  | rdSpPct
  | rdInterval
  | rdFrameId
  | rdFrameDlc
  | rdBtc
  | rdLastTick
  | rdNow
  | rdElapsed
  | rdFcLo
  | rdFcHi
  | nop
  | solve
  | start
  | poll
  | txdone
deriving DecidableEq, Repr

/-- The mapped registers of the window (20_memory.md R92). -/
inductive RegName where
  | ctrl
  | status
  | clkHz
  | bitrateHz
  | spPct
  | interval
  | frameId
  | frameDlc
  | btc
  | lastTick
  | now
  | elapsed
  | fcLo
  | fcHi
deriving DecidableEq, Repr

/-- The six configuration registers, the only ones a host write stores to (10_state.md section 2). -/
inductive ConfigReg where
  | clkHz
  | bitrateHz
  | spPct
  | interval
  | frameId
  | frameDlc
deriving DecidableEq, Repr

/-- A configuration register as a register of the window. -/
def ConfigReg.reg : ConfigReg → RegName
  | .clkHz => .clkHz
  | .bitrateHz => .bitrateHz
  | .spPct => .spPct
  | .interval => .interval
  | .frameId => .frameId
  | .frameDlc => .frameDlc

/-- The command kinds `decode_cmd` answers (R118). -/
inductive Command where
  | nop
  | solve
  | start
  | reserved
deriving DecidableEq, Repr

/-- A raw operation before decoding, one form per format of R110: a bus transaction (the data lane is unused when
the header says read), a command word, or the 2-bit STATE field that selects an internal step. -/
inductive OpWord where
  | bus (hdr : Header) (data : Word)
  | cmd (cw : Word)
  | int (state : BitVec 2)
deriving DecidableEq, Repr

/-- Why a raw operation spells no `Instr`. Every bus reason ends in a bus error (R119, R262). -/
inductive Reject where
  /-- SIZE is not `10` (R112). -/
  | badSize
  /-- OFFSET[1:0] is not `00` (R85). -/
  | misaligned
  /-- OFFSET is 0x38 or 0x3C (R92). -/
  | unmapped
  /-- A read of CTRL (R51). -/
  | readOfWriteOnly
  /-- A write of STATUS, BTC, LAST_TICK, NOW, ELAPSED, FC_LO or FC_HI (R119). -/
  | writeOfReadOnly
  /-- A reserved command word (R120). -/
  | reservedCommand
  /-- No internal step is enabled in this STATE (R116). -/
  | noInternalStep
deriving DecidableEq, Repr

end Sys2Proof
end

