-- ==== Sys2Proof/WellFormed.lean ====
section
/-! DEFINITION. Well-formedness of raw operations, one named check per rule (30_encoding.md R112 to R120), and of
instructions. An `Instr` holds only decoded operands, and R117 lets a data word take every value, so the checks
that can fail are those on raw operations. -/

namespace Sys2Proof

namespace OpWord

/-- SIZE is word (R112). -/
def sizeOk (hdr : Header) : Bool := hdr.extractLsb' 7 2 == 0b10#2

/-- The offset is a multiple of 4 (R85). -/
def alignedOk (hdr : Header) : Bool := hdr.extractLsb' 0 2 == 0b00#2

/-- The offset is not one of the two unmapped slots (R92). -/
def mappedOk (hdr : Header) : Bool := !([0x38#6, 0x3C#6].contains (hdr.extractLsb' 0 6))

/-- A read is not of CTRL (R119). -/
def readableOk (hdr : Header) : Bool := hdr.getLsbD 6 || hdr.extractLsb' 0 6 != 0x00#6

/-- A write is not to a read-only register (R119). -/
def writableOk (hdr : Header) : Bool :=
  !hdr.getLsbD 6 ||
    !([0x04#6, 0x20#6, 0x24#6, 0x28#6, 0x2C#6, 0x30#6, 0x34#6].contains (hdr.extractLsb' 0 6))

/-- The must-be-zero bits of a command word are zero (R114). -/
def mbzOk (cw : Word) : Bool := cw.extractLsb' 4 28 == 0#28

/-- The command opcode is NOP, SOLVE or START (R115). -/
def opOk (cw : Word) : Bool := decide ((cw.extractLsb' 0 4).toNat ≤ 2)

/-- STATE enables an internal step: AWAIT or TRANSMIT (R116). -/
def stateOk (state : BitVec 2) : Bool := state == 1#2 || state == 2#2

/-- A raw operation spells an operation of the block. -/
def wf : OpWord → Bool
  | .bus hdr _ => sizeOk hdr && alignedOk hdr && mappedOk hdr && readableOk hdr && writableOk hdr
  | .cmd cw => mbzOk cw && opOk cw
  | .int state => stateOk state

end OpWord

/-- Every operand value of every operation is admissible: a data word is stored or decoded whole (R117). -/
def Instr.wf : Instr → Bool
  | .wrCtrl _ | .wrClkHz _ | .wrBitrateHz _ | .wrSpPct _ | .wrInterval _ | .wrFrameId _ | .wrFrameDlc _ => true
  | .rdStatus | .rdClkHz | .rdBitrateHz | .rdSpPct | .rdInterval | .rdFrameId | .rdFrameDlc => true
  | .rdBtc | .rdLastTick | .rdNow | .rdElapsed | .rdFcLo | .rdFcHi => true
  | .nop | .solve | .start => true
  | .poll | .txdone => true

end Sys2Proof
end

