-- ==== Sys2Proof/Decode.lean ====
section
/-! DEFINITION. The decoder of 30_encoding.md R118, total on any header, command word and STATE value, rejecting by
name; then the encoder, from the same tables (R92, R113, R115, R116). -/

namespace Sys2Proof

/-- SIZE, header bits 8:7 (R111). -/
def headerSize (hdr : Header) : BitVec 2 := hdr.extractLsb' 7 2

/-- W, header bit 6: write (R111). -/
def headerWrite (hdr : Header) : Bool := hdr.getLsbD 6

/-- OFFSET, header bits 5:0 (R111). -/
def headerOffset (hdr : Header) : Offset := hdr.extractLsb' 0 6

/-- The address map of the register window (R92); 0x38 and 0x3C, and every misaligned offset, name nothing. -/
def regAt (off : Offset) : Option RegName :=
  match off.toNat with
  | 0x00 => some .ctrl
  | 0x04 => some .status
  | 0x08 => some .clkHz
  | 0x0C => some .bitrateHz
  | 0x10 => some .spPct
  | 0x14 => some .interval
  | 0x18 => some .frameId
  | 0x1C => some .frameDlc
  | 0x20 => some .btc
  | 0x24 => some .lastTick
  | 0x28 => some .now
  | 0x2C => some .elapsed
  | 0x30 => some .fcLo
  | 0x34 => some .fcHi
  | _ => none

/-- The write column of R113. -/
def decodeWrite (data : Word) : RegName → Except Reject Instr
  | .ctrl => .ok (.wrCtrl data)
  | .clkHz => .ok (.wrClkHz data)
  | .bitrateHz => .ok (.wrBitrateHz data)
  | .spPct => .ok (.wrSpPct data)
  | .interval => .ok (.wrInterval data)
  | .frameId => .ok (.wrFrameId data)
  | .frameDlc => .ok (.wrFrameDlc data)
  | .status | .btc | .lastTick | .now | .elapsed | .fcLo | .fcHi => .error .writeOfReadOnly

/-- The read column of R113. -/
def decodeRead : RegName → Except Reject Instr
  | .ctrl => .error .readOfWriteOnly
  | .status => .ok .rdStatus
  | .clkHz => .ok .rdClkHz
  | .bitrateHz => .ok .rdBitrateHz
  | .spPct => .ok .rdSpPct
  | .interval => .ok .rdInterval
  | .frameId => .ok .rdFrameId
  | .frameDlc => .ok .rdFrameDlc
  | .btc => .ok .rdBtc
  | .lastTick => .ok .rdLastTick
  | .now => .ok .rdNow
  | .elapsed => .ok .rdElapsed
  | .fcLo => .ok .rdFcLo
  | .fcHi => .ok .rdFcHi

/-- `decode_bus` (R118): the operation a transaction's header spells, with the data word of a write. -/
def decodeBus (hdr : Header) (data : Word) : Except Reject Instr :=
  if headerSize hdr ≠ 0b10#2 then .error .badSize
  else if (headerOffset hdr).extractLsb' 0 2 ≠ 0b00#2 then .error .misaligned
  else
    match regAt (headerOffset hdr) with
    | none => .error .unmapped
    | some r => if headerWrite hdr then decodeWrite data r else decodeRead r

/-- `decode_cmd` (R118): the command a CTRL data word spells. -/
def decodeCmd (cw : Word) : Command :=
  if cw.extractLsb' 4 28 ≠ 0#28 then .reserved
  else
    match (cw.extractLsb' 0 4).toNat with
    | 0x0 => .nop
    | 0x1 => .solve
    | 0x2 => .start
    | _ => .reserved

/-- `decode_int` (R118): the internal step STATE enables. -/
def decodeInt (state : BitVec 2) : Except Reject Instr :=
  match state.toNat with
  | 1 => .ok .poll
  | 2 => .ok .txdone
  | _ => .error .noInternalStep

/-- The decoder: the operation a raw form spells, or the reason it spells none. -/
def decode : OpWord → Except Reject Instr
  | .bus hdr data => decodeBus hdr data
  | .cmd cw =>
    match decodeCmd cw with
    | .nop => .ok .nop
    | .solve => .ok .solve
    | .start => .ok .start
    | .reserved => .error .reservedCommand
  | .int state => decodeInt state

/-! ## The encoder -/

/-- The offset of a register (R92). -/
def regOffset : RegName → Offset
  | .ctrl => 0x00#6
  | .status => 0x04#6
  | .clkHz => 0x08#6
  | .bitrateHz => 0x0C#6
  | .spPct => 0x10#6
  | .interval => 0x14#6
  | .frameId => 0x18#6
  | .frameDlc => 0x1C#6
  | .btc => 0x20#6
  | .lastTick => 0x24#6
  | .now => 0x28#6
  | .elapsed => 0x2C#6
  | .fcLo => 0x30#6
  | .fcHi => 0x34#6

/-- The header of a word read of a register: `{0b10, 0, OFFSET}` (R113). -/
def readHeader (r : RegName) : Header := 0b10#2 ++ 0#1 ++ regOffset r

/-- The header of a word write of a register: `{0b10, 1, OFFSET}` (R113). -/
def writeHeader (r : RegName) : Header := 0b10#2 ++ 1#1 ++ regOffset r

/-- The raw form of an operation; a read leaves the data lane 0. -/
def encode : Instr → OpWord
  | .wrCtrl cw => .bus (writeHeader .ctrl) cw
  | .wrClkHz data => .bus (writeHeader .clkHz) data
  | .wrBitrateHz data => .bus (writeHeader .bitrateHz) data
  | .wrSpPct data => .bus (writeHeader .spPct) data
  | .wrInterval data => .bus (writeHeader .interval) data
  | .wrFrameId data => .bus (writeHeader .frameId) data
  | .wrFrameDlc data => .bus (writeHeader .frameDlc) data
  | .rdStatus => .bus (readHeader .status) 0
  | .rdClkHz => .bus (readHeader .clkHz) 0
  | .rdBitrateHz => .bus (readHeader .bitrateHz) 0
  | .rdSpPct => .bus (readHeader .spPct) 0
  | .rdInterval => .bus (readHeader .interval) 0
  | .rdFrameId => .bus (readHeader .frameId) 0
  | .rdFrameDlc => .bus (readHeader .frameDlc) 0
  | .rdBtc => .bus (readHeader .btc) 0
  | .rdLastTick => .bus (readHeader .lastTick) 0
  | .rdNow => .bus (readHeader .now) 0
  | .rdElapsed => .bus (readHeader .elapsed) 0
  | .rdFcLo => .bus (readHeader .fcLo) 0
  | .rdFcHi => .bus (readHeader .fcHi) 0
  | .nop => .cmd 0x0000_0000#32
  | .solve => .cmd 0x0000_0001#32
  | .start => .cmd 0x0000_0002#32
  | .poll => .int 1#2
  | .txdone => .int 2#2

/-- A raw form with the lane it does not carry cleared: a read transaction has no data (R111). -/
def OpWord.canonical : OpWord → OpWord
  | .bus hdr data => .bus hdr (if headerWrite hdr then data else 0)
  | .cmd cw => .cmd cw
  | .int state => .int state

/-! ## The opcode table's numbering -/

/-- The raw form behind `nbits` bits numbered as spec/opcode_table.json numbers them. The table's three formats have
2, 9 and 32 bits, so in whole bytes `nbits` tells them apart: 8 is `int`, 16 is `bus`, 32 is `cmd`. A bus data word,
where one is given, follows the header's 16 bits. Bits a format does not have must be 0. DESIGN CHOICE, log 10. -/
def rawOp (nbits w : Nat) : Option OpWord :=
  if nbits ≤ 8 then
    if w < 2 ^ 2 then some (.int (BitVec.ofNat 2 w)) else none
  else if nbits ≤ 16 then
    if w < 2 ^ 9 then some (.bus (BitVec.ofNat 9 w) 0) else none
  else if nbits ≤ 32 then
    if w < 2 ^ 32 then some (.cmd (BitVec.ofNat 32 w)) else none
  else if w % 2 ^ 16 < 2 ^ 9 ∧ w < 2 ^ 48 then
    some (.bus (BitVec.ofNat 9 w) (BitVec.ofNat 32 (w / 2 ^ 16)))
  else none

/-- The instruction the decoder reads from `nbits` table-numbered bits. -/
def decodeTableWord (nbits w : Nat) : Option Instr :=
  match rawOp nbits w with
  | none => none
  | some o =>
    match decode o with
    | .ok i => some i
    | .error _ => none

end Sys2Proof
end

