-- ==== Sys2Proof/Machine/State.lean ====
section
/-! DEFINITION. The state of the machine: everything 10_state.md R30 gives the block, the event trace it emits
(20_memory.md R88), and, as the model's own plain data, the model arguments (00_scope.md R7) and what the outside
agents will do (60_exceptions.md R287). -/

namespace Sys2Proof.Machine

/-- STATUS.STATE, the control state (R46). -/
inductive BlockState where
  | idle
  | await
  | transmit
  | halted
deriving DecidableEq, Repr

/-- STATUS.RESULT (R47); codes 6 to 15 are never written. -/
inductive ResultCode where
  | none
  | ok
  | noSolution
  | configRejected
  | badArg
  | badCmd
deriving DecidableEq, Repr

/-- The stored fields of STATUS (R45); its reserved bits have no storage and read 0 (R121). -/
structure Status where
  state : BlockState
  result : ResultCode
  dbg : Bool
  wign : Bool
  fault : Bool
deriving DecidableEq, Repr

/-- An outgoing frame (R175): identifier FRAME_ID[30:0], format flag FRAME_ID[31], data length, and the payload
bytes, `b[0]` first. -/
structure Frame where
  identifier : BitVec 31
  isExtended : Bool
  dataLength : Word
  payload : List Byte
deriving DecidableEq, Repr

/-- A bus response (R111): OKAY or SLVERR. -/
inductive BusReply where
  | okay
  | slverr
deriving DecidableEq, Repr

/-- The events of the observable trace (R88). -/
inductive Event where
  | busResp (hdr : Header) (data : Word) (resp : BusReply)
  | hpiInit
  | hpiConfigureReq (p ps1 ps2 : Nat)
  | hpiConfigureAns (a : HpiAnswer)
  | dbgRise
  | hpiTransmitReq (f : Frame)
  | hpiTransmitAns (a : HpiAnswer)
  | dbgFall
  | reset
deriving DecidableEq, Repr

/-- What the ports present to the step of one turn: a counter value and the HPI's answer line. `none` leaves the
draw free (R270, R277, R278). -/
structure Draws where
  counter : Option Word
  hpi : Option HpiAnswer
deriving DecidableEq, Repr

/-- Every draw left free. -/
def Draws.free : Draws := ⟨none, none⟩

/-- One agent's move (R84, R285): a host transaction, a move of the block's own sequencer, or the reset input. -/
inductive Turn where
  | host (hdr : Header) (data : Word) (draws : Draws)
  | block (draws : Draws)
  | reset
deriving DecidableEq, Repr

/-- What a turn's agent makes the ports present. -/
def Turn.draws : Turn → Draws
  | .host _ _ d => d
  | .block d => d
  | .reset => Draws.free

/-- The input ports as the current step sees them, and the number of the next free draw (logs 2, 3). -/
structure Ports where
  counter : Option Word
  hpi : Option HpiAnswer
  index : Nat
deriving DecidableEq, Repr

/-- The model arguments W and PAYLOAD_ORDER (R7), fixed for a machine: no step changes them (logs 5, 6). -/
structure Args where
  w : Nat
  payloadOrder : PayloadOrder
deriving DecidableEq, Repr

/-- W is one the spec allows: "a model takes `W` as an argument with 2 ≤ W ≤ 32" (R7). -/
abbrev Args.wf (a : Args) : Prop := 2 ≤ a.w ∧ a.w ≤ 32

/-- The machine. LAST_TICK, NOW and ELAPSED are W-bit registers held zero-extended in 32 bits, W being an argument
(log 5). CTRL holds nothing (R51) and FC_LO, FC_HI are views of `frameCounter` (R44), so none has a field. -/
structure State where
  status : Status
  clkHz : Word
  bitrateHz : Word
  spPct : Word
  interval : Word
  frameId : Word
  frameDlc : Word
  btc : Word
  lastTick : Word
  now : Word
  elapsed : Word
  frameCounter : BitVec 64
  pending : Option Frame
  trace : List Event
  args : Args
  ports : Ports
  turns : List Turn
deriving DecidableEq, Repr

/-- No step of this machine stops with a fault: every outcome the spec names is a next state (R261), so there is no
constructor (DEDUCED, log 17). Safe: nothing is stopped that the block goes on from. -/
inductive Fault
deriving DecidableEq, Repr

/-- Refusals. -/
inductive Refusal where
  /-- Raised only by an arm of `exec` whose instruction has no meaning yet, and no arm is one. Safe: it stops. -/
  | notModelled (mnemonic : String)
deriving DecidableEq, Repr

/-- STATUS after reset (R45): 0x0000_0000. -/
def Status.reset : Status :=
  { state := .idle, result := .none, dbg := false, wign := false, fault := false }

/-- Right after reset (R300, R303): every register 0, PENDING none. The trace is empty (log 4), W is this instance's
16 (log 5), PAYLOAD_ORDER is open (log 6), and no agent's move or draw is fixed (logs 1 to 3). -/
def State.reset : State :=
  { status := Status.reset
    clkHz := 0, bitrateHz := 0, spPct := 0, interval := 0, frameId := 0, frameDlc := 0
    btc := 0
    lastTick := 0, now := 0, elapsed := 0
    frameCounter := 0
    pending := none
    trace := []
    args := { w := Config.w, payloadOrder := Config.payloadOrder }
    ports := { counter := none, hpi := none, index := 0 }
    turns := [] }

end Sys2Proof.Machine
end

