-- ==== Sys2Proof/Machine/Flags.lean ====
section
/-! DEFINITION. The STATUS register: its codes, its read value, and the one writer of each field
(10_state.md R45 to R50). -/

namespace Sys2Proof.Machine

/-- The 2-bit code of STATE (R46). -/
def BlockState.code : BlockState → BitVec 2
  | .idle => 0#2
  | .await => 1#2
  | .transmit => 2#2
  | .halted => 3#2

/-- The control state a 2-bit code names; every code is used (R46). -/
def BlockState.ofCode (c : BitVec 2) : BlockState :=
  match c.toNat with
  | 0 => .idle
  | 1 => .await
  | 2 => .transmit
  | _ => .halted

/-- The 4-bit code of RESULT (R47). -/
def ResultCode.code : ResultCode → BitVec 4
  | .none => 0#4
  | .ok => 1#4
  | .noSolution => 2#4
  | .configRejected => 3#4
  | .badArg => 4#4
  | .badCmd => 5#4

/-- A code that records a host error: writing it also sets FAULT (R50, R266, R267). -/
def ResultCode.isHostError : ResultCode → Bool
  | .badArg | .badCmd => true
  | .none | .ok | .noSolution | .configRejected => false

/-- STATUS as a read returns it: `{FAULT, WIGN, DBG, RESULT, 0b00, STATE}` zero-extended (R45, R227). -/
def Status.word (st : Status) : Word :=
  0#21 ++ BitVec.ofBool st.fault ++ BitVec.ofBool st.wign ++ BitVec.ofBool st.dbg ++ st.result.code ++ 0#2 ++
    st.state.code

/-- `state <- S` (R11). -/
def State.setState (b : BlockState) (s : State) : State :=
  { s with status := { s.status with state := b } }

/-- DBG, pin and mirror together (R48, R283). -/
def State.setDbg (d : Bool) (s : State) : State :=
  { s with status := { s.status with dbg := d } }

/-- WIGN is set and never cleared but by reset (R49). -/
def State.setWign (s : State) : State :=
  { s with status := { s.status with wign := true } }

/-- `raise Result(c)` (R11, R263): RESULT takes the code, and a host-error code also sets the sticky FAULT (R50).
This is the one place either field is written, reset apart. -/
def State.raiseResult (c : ResultCode) (s : State) : State :=
  { s with status := { s.status with result := c, fault := s.status.fault || c.isHostError } }

/-- The DBG output pin: the same storage as STATUS.DBG (R283). -/
def State.dbgPin (s : State) : Bool := s.status.dbg

end Sys2Proof.Machine
end

