-- ==== Sys2Proof/Machine/Operands.lean ====
section
/-! DEFINITION. What the operations read: register values, fields of registers, draws, elapsed ticks, frames and
payloads (10_state.md R32 to R44; 41_scheduler.md R171, R175 to R177; 42_commands.md R204). -/

namespace Sys2Proof.Machine

/-- The low W bits of a 32-bit value, zero-extended: a W-bit register's read value (R40, R117). -/
def wBits (w : Nat) (v : Word) : Word := BitVec.ofNat 32 (v.toNat % 2 ^ w)

/-- `(now − last) mod 2^W`: the W-bit unsigned subtraction (R171). -/
def elapsedTicks (w : Nat) (now last : Word) : Word := wBits w (now - last)

/-- The registers a read may name: every mapped one but CTRL (R92). -/
inductive ReadReg where
  | config (r : ConfigReg)
  | status
  | btc
  | lastTick
  | now
  | elapsed
  | fcLo
  | fcHi
deriving DecidableEq, Repr

/-- A readable register as a register of the window. -/
def ReadReg.reg : ReadReg → RegName
  | .config r => r.reg
  | .status => .status
  | .btc => .btc
  | .lastTick => .lastTick
  | .now => .now
  | .elapsed => .elapsed
  | .fcLo => .fcLo
  | .fcHi => .fcHi

/-- A configuration register's stored value (R32 to R37). -/
def configVal (r : ConfigReg) (s : State) : Word :=
  match r with
  | .clkHz => s.clkHz
  | .bitrateHz => s.bitrateHz
  | .spPct => s.spPct
  | .interval => s.interval
  | .frameId => s.frameId
  | .frameDlc => s.frameDlc

/-- A register's read value, VAL of R227 to R239. -/
def readVal (r : ReadReg) (s : State) : Word :=
  match r with
  | .config c => configVal c s
  | .status => s.status.word
  | .btc => s.btc
  | .lastTick => wBits s.args.w s.lastTick
  | .now => wBits s.args.w s.now
  | .elapsed => wBits s.args.w s.elapsed
  | .fcLo => s.frameCounter.extractLsb' 0 32
  | .fcHi => s.frameCounter.extractLsb' 32 32

/-- `SampleCounter()` (R11, R270): the W-bit value the counter port presents, or a free draw. It has no side
effect. -/
def sampleCounter (s : State) : Word :=
  wBits s.args.w (s.ports.counter.getD (Config.freeSample s.ports.index))

/-- The HPI's answer to the configure request, drawn in START's step (R277). -/
def configureAnswer (s : State) : HpiAnswer :=
  s.ports.hpi.getD (Config.freeConfigureAnswer s.ports.index)

/-- The HPI's answer to the outstanding transmit request, drawn in TXDONE's step (R278). -/
def transmitAnswer (s : State) : HpiAnswer :=
  s.ports.hpi.getD (Config.freeTransmitAnswer s.ports.index)

/-- FRAME_ID.ID, bits 30:0 (R36). -/
def frameIdent (f : Word) : BitVec 31 := f.extractLsb' 0 31

/-- FRAME_ID.IDE, bit 31: extended format (R36). -/
def frameIde (f : Word) : Bool := f.getLsbD 31

/-- `ID_FITS` (R204, R206): 29 bits in extended format, 11 bits in standard format. -/
def idFits (f : Word) : Bool :=
  if frameIde f then decide ((frameIdent f).toNat < 2 ^ Config.extIdBits)
  else decide ((frameIdent f).toNat < 2 ^ Config.stdIdBits)

/-- The data length fits a frame (R206). -/
def dlcFits (n : Word) : Bool := decide (n.toNat ≤ Config.dlcMax)

/-- INTERVAL is below half the counter's range (R207). -/
def intervalFits (w : Nat) (n : Word) : Bool := decide (n.toNat < 2 ^ (w - 1))

/-- Byte k of the frame counter: `c[8k+7 : 8k]`. -/
def counterByte (c : BitVec 64) (k : Nat) : Byte := c.extractLsb' (8 * k) 8

/-- `PAYLOAD(c, n)` (R177), `b[0]` first; for n above 8, which no running block holds, see log 16. -/
def payload (order : PayloadOrder) (c : BitVec 64) (n : Nat) : List Byte :=
  match order with
  | .le => (List.range n).map fun i => counterByte c i
  | .be => (List.range n).map fun i => counterByte c (n - 1 - i)

/-- `FRAME(c)` (R175, R176) for the frame registers the state holds. -/
def frameFor (c : BitVec 64) (s : State) : Frame :=
  { identifier := frameIdent s.frameId
    isExtended := frameIde s.frameId
    dataLength := s.frameDlc
    payload := payload s.args.payloadOrder c s.frameDlc.toNat }

/-- BTC.PRESCALER, bits 10:0 (R38). -/
def btcPrescaler (b : Word) : Nat := (b.extractLsb' 0 11).toNat

/-- BTC.PS1, bits 20:16 (R38). -/
def btcPs1 (b : Word) : Nat := (b.extractLsb' 16 5).toNat

/-- BTC.PS2, bits 27:24 (R38). -/
def btcPs2 (b : Word) : Nat := (b.extractLsb' 24 4).toNat

/-- BTC.VALID, bit 31 (R38). -/
def btcValid (b : Word) : Bool := b.getLsbD 31

end Sys2Proof.Machine
end

