-- ==== Sys2Proof/Machine/Solver.lean ====
section
/-! DEFINITION. SOLVE_FN, the bit-timing solver (40_solver.md R140 to R162), on natural numbers as R10 asks
(DEDUCED, log 11). -/

namespace Sys2Proof.Machine

/-- What SOLVE_FN returns (R140). -/
inductive SolveResult where
  | config (p ps1 ps2 : Nat)
  | noSolution
  | badArg
deriving DecidableEq, Repr

/-- The inputs are outside the solver's contract (R141). -/
def argsBad (clk br sp : Word) : Bool :=
  clk.toNat == 0 || br.toNat == 0 || decide (sp.toNat < Config.spMin) || decide (Config.spMax < sp.toNat)

/-- `scaled_clock = clk div p` (R144). -/
def scaledClock (clk p : Nat) : Nat := clk / p

/-- `total_quanta = scaled_clock div br` (R145). -/
def totalQuanta (clk br p : Nat) : Nat := scaledClock clk p / br

/-- Candidate `p` passes the three tests of R143 to R145. -/
def candidateFits (clk br p : Nat) : Bool :=
  clk % p == 0 && scaledClock clk p % br == 0 && decide (totalQuanta clk br p ≤ Config.tqMax)

/-- The candidates, in ascending order (R142). -/
def candidates : List Nat := List.range' Config.pMin (Config.pMax + 1 - Config.pMin)

/-- The first candidate that passes (R142, R146), or none (R147). -/
def firstFit (clk br : Nat) : Option Nat := candidates.find? (candidateFits clk br)

/-- `segment_quanta = total_quanta − 1` (R148). -/
def segmentQuanta (tq : Nat) : Nat := tq - Config.syncQ

/-- `phase_segment_1 = (sp × segment_quanta + 50) div 100`, half up (R149). -/
def phaseSegment1 (sp sq : Nat) : Nat := (sp * sq + Config.roundBias) / Config.roundDiv

/-- `phase_segment_2 = segment_quanta − phase_segment_1` (R150). -/
def phaseSegment2 (sp sq : Nat) : Nat := sq - phaseSegment1 sp sq

/-- The split is in bounds (R151). -/
def splitFits (ps1 ps2 : Nat) : Bool :=
  !(ps1 == 0 || decide (Config.ps1Max < ps1) || ps2 == 0 || decide (Config.ps2Max < ps2))

/-- The split of `tq` quanta at the chosen prescaler; a failed split ends the solve (R148 to R153). -/
def splitAt (sp p tq : Nat) : SolveResult :=
  if splitFits (phaseSegment1 sp (segmentQuanta tq)) (phaseSegment2 sp (segmentQuanta tq)) then
    .config p (phaseSegment1 sp (segmentQuanta tq)) (phaseSegment2 sp (segmentQuanta tq))
  else .noSolution

/-- SOLVE_FN (R140). -/
def solveFn (clk br sp : Word) : SolveResult :=
  if argsBad clk br sp then .badArg
  else
    match firstFit clk.toNat br.toNat with
    | none => .noSolution
    | some p => splitAt sp.toNat p (totalQuanta clk.toNat br.toNat p)

/-- `ENC_BTC` (R159). -/
def encBtc : SolveResult → Word
  | .config p ps1 ps2 =>
    (1#32 <<< 31) ||| (BitVec.ofNat 32 ps2 <<< 24) ||| (BitVec.ofNat 32 ps1 <<< 16) ||| BitVec.ofNat 32 p
  | .noSolution => 0x0000_0000#32
  | .badArg => 0x0000_0000#32

/-- A solver datapath of `n` bits (R156): the same search and split with every operation an `n`-bit
unsigned one. The spec describes no datapath: this one is the model's own, used by no operation (DEDUCED, log 11). -/
def solveDatapath (n : Nat) (clk br sp : BitVec n) : SolveResult :=
  if clk == 0#n || br == 0#n || decide (sp < BitVec.ofNat n 1) || decide (BitVec.ofNat n 99 < sp) then .badArg
  else
    match candidates.find? fun p =>
        clk % BitVec.ofNat n p == 0#n && clk / BitVec.ofNat n p % br == 0#n &&
          decide (clk / BitVec.ofNat n p / br ≤ BitVec.ofNat n 25) with
    | none => .noSolution
    | some p =>
      let sq := clk / BitVec.ofNat n p / br - BitVec.ofNat n 1
      let ps1 := (sp * sq + BitVec.ofNat n 50) / BitVec.ofNat n 100
      let ps2 := sq - ps1
      if ps1 == 0#n || decide (BitVec.ofNat n 16 < ps1) || ps2 == 0#n || decide (BitVec.ofNat n 8 < ps2) then
        .noSolution
      else .config p ps1.toNat ps2.toNat

end Sys2Proof.Machine
end

