-- ==== Sys2Proof/Machine/Ops.lean ====
section
/-! DEFINITION. The named operations the meanings share: emitting events, bus responses, gated writes, bus errors,
halting, reset, and a turn's hold on the ports. -/

namespace Sys2Proof.Machine

/-- What one meaning answers. -/
abbrev Result := Host.Outcome State Fault Refusal

/-- `emit E` (R11): append an event to the trace. -/
def State.emit (e : Event) (s : State) : State := { s with trace := s.trace ++ [e] }

/-- An OKAY response (R111, R200, R220). -/
def State.respond (hdr : Header) (data : Word) (s : State) : State := s.emit (.busResp hdr data .okay)

/-- `raise BusError()` (R262), the machine's only exception of the bus: SLVERR with rdata 0, one event, no state
change, no command. There is nothing to save and nowhere to return from (R261, R281). -/
def busError (hdr : Header) (s : State) : State := s.emit (.busResp hdr 0#32 .slverr)

/-- A read: VAL with OKAY, and no state change (43_register_access.md section 2; R86). -/
def readReg (r : ReadReg) (s : State) : State := s.respond (readHeader r.reg) (readVal r s)

/-- Store all 32 bits of a configuration register, unchecked (R220). -/
def setConfig (r : ConfigReg) (data : Word) (s : State) : State :=
  match r with
  | .clkHz => { s with clkHz := data }
  | .bitrateHz => { s with bitrateHz := data }
  | .spPct => { s with spPct := data }
  | .interval => { s with interval := data }
  | .frameId => { s with frameId := data }
  | .frameDlc => { s with frameDlc := data }

/-- A well-formed host write: OKAY, and its effect in IDLE; ignored with WIGN set in every other state
(R200, R220, R269). -/
def gatedWrite (r : RegName) (effect : State → State) (s : State) : State :=
  let s := s.respond (writeHeader r) 0#32
  if s.status.state = .idle then effect s else s.setWign

/-- `WR_REG` (R220). -/
def writeConfig (r : ConfigReg) (data : Word) (s : State) : State := gatedWrite r.reg (setConfig r data) s

/-- An internal step acts only in the STATE that enables it (R116); in any other it is not a step of the block and
changes nothing (R189; log 9). -/
def whenEnabled (b : BlockState) (effect : State → State) (s : State) : State :=
  if s.status.state = b then effect s else s

/-- Enter the permanent halt with its cause (R209, R210, R274). -/
def State.halt (c : ResultCode) (s : State) : State := (s.raiseResult c).setState .halted

/-- Reset (R300): every register to its reset value, PENDING none, DBG low in the same step, one event. The counter
and the HPI are outside the block and untouched. -/
def resetBlock (s : State) : State :=
  State.emit .reset
    { s with
      clkHz := 0, bitrateHz := 0, spPct := 0, interval := 0, frameId := 0, frameDlc := 0
      btc := 0
      lastTick := 0, now := 0, elapsed := 0
      frameCounter := 0
      status := Status.reset
      pending := none }

/-- The move to be taken: the head of the turns, or, when no outside agent has a move left, one of the block's own
with free draws, so that an enabled internal step is always taken in the end (R188, R279; log 1). -/
def nextTurn (s : State) : Turn :=
  match s.turns with
  | [] => .block Draws.free
  | t :: _ => t

/-- Take the move: it leaves the list, and the ports present its draws, under a fresh number for the free ones. -/
def takeTurn (s : State) : State :=
  { s with
    turns := s.turns.tail
    ports := { counter := (nextTurn s).draws.counter, hpi := (nextTurn s).draws.hpi, index := s.ports.index + 1 } }

/-- `MemRead(off, 4)` (R11) as the host's turn. -/
def memReadTurn (off : Offset) : Turn := .host (0b10#2 ++ 0#1 ++ off) 0#32 Draws.free

/-- `MemWrite(off, 4, v)` (R11) as the host's turn, with what the ports present to a START it may carry. -/
def memWriteTurn (off : Offset) (v : Word) (d : Draws) : Turn := .host (0b10#2 ++ 1#1 ++ off) v d

end Sys2Proof.Machine
end

