-- ==== Sys2Proof/Machine/Commands.lean ====
section
/-! DEFINITION. The commands (42_commands.md R200 to R214): what each does in IDLE, and the CTRL write that carries
it. -/

namespace Sys2Proof.Machine

/-- `NOP_CMD` (R202): no effect. -/
def nopCmd (s : State) : State := s

/-- The RESULT code of a solver result reported by SOLVE (R203). -/
def solveCode : SolveResult → ResultCode
  | .config _ _ _ => .ok
  | .noSolution => .noSolution
  | .badArg => .badArg

/-- `SOLVE_CMD` (R203). -/
def solveCmd (s : State) : State :=
  State.raiseResult (solveCode (solveFn s.clkHz s.bitrateHz s.spPct))
    { s with btc := encBtc (solveFn s.clkHz s.bitrateHz s.spPct) }

/-- `REJECT_ARG` (R204, R205): BTC 0, BAD_ARG, FAULT; STATE stays IDLE. -/
def rejectArg (s : State) : State := State.raiseResult .badArg { s with btc := 0#32 }

/-- START's argument checks, in order: solver arguments (R205), frame (R206), interval (R207). -/
def startArgsBad (s : State) : Bool :=
  argsBad s.clkHz s.bitrateHz s.spPct || !idFits s.frameId || !dlcFits s.frameDlc ||
    !intervalFits s.args.w s.interval

/-- Initialise the schedule and enter AWAIT (R211). -/
def startSchedule (s : State) : State :=
  State.setState .await
    (State.raiseResult .ok
      { s with
        now := sampleCounter s, lastTick := sampleCounter s, elapsed := 0#32
        frameCounter := 0#64 })

/-- Hand the solved configuration to the HPI and act on its answer (R210). BTC already holds it. -/
def startConfigure (p ps1 ps2 : Nat) (s : State) : State :=
  let s := (s.emit (.hpiConfigureReq p ps1 ps2)).emit (.hpiConfigureAns (configureAnswer s))
  match configureAnswer s with
  | .err => s.halt .configRejected
  | .ok => startSchedule s

/-- `START_CMD` (R204 to R211). The solver cannot answer BadArg here, the same test having passed (R209); that arm
is never reached and does what R205 does (DEDUCED, log 12). HpiInit has no answer and always succeeds (R276, log 13). -/
def startCmd (s : State) : State :=
  if startArgsBad s then rejectArg s
  else
    let s := s.emit .hpiInit
    match solveFn s.clkHz s.bitrateHz s.spPct with
    | .badArg => rejectArg s
    | .noSolution => State.halt .noSolution { s with btc := 0#32 }
    | .config p ps1 ps2 => startConfigure p ps1 ps2 { s with btc := encBtc (.config p ps1 ps2) }

/-- `RESERVED_CMD` (R212): BAD_CMD and FAULT. -/
def reservedCmd (s : State) : State := s.raiseResult .badCmd

/-- The command a CTRL write carries (R200). -/
def runCommand (c : Command) (s : State) : State :=
  match c with
  | .nop => nopCmd s
  | .solve => solveCmd s
  | .start => startCmd s
  | .reserved => reservedCmd s

/-- WR_CTRL (R200): OKAY always (R201); in IDLE the command runs, elsewhere the write is ignored and WIGN set. -/
def execWrCtrl (cw : Word) (s : State) : Result := .next (gatedWrite .ctrl (runCommand (decodeCmd cw)) s)

/-- NOP (R202): the CTRL write of command word 0x0000_0000 (log 7). -/
def execNop (s : State) : Result := .next (gatedWrite .ctrl nopCmd s)

/-- SOLVE (R203): the CTRL write of command word 0x0000_0001 (log 7). -/
def execSolve (s : State) : Result := .next (gatedWrite .ctrl solveCmd s)

/-- START (R204): the CTRL write of command word 0x0000_0002 (log 7). -/
def execStart (s : State) : Result := .next (gatedWrite .ctrl startCmd s)

end Sys2Proof.Machine
end

