-- ==== Sys2Proof/Machine/RegisterReads.lean ====
section
/-! DEFINITION. The register reads (43_register_access.md R227 to R239). -/

namespace Sys2Proof.Machine

/-- RD_STATUS (R227). -/
def execRdStatus (s : State) : Result := .next (readReg .status s)

/-- RD_CLK_HZ (R228). -/
def execRdClkHz (s : State) : Result := .next (readReg (.config .clkHz) s)

/-- RD_BITRATE_HZ (R229). -/
def execRdBitrateHz (s : State) : Result := .next (readReg (.config .bitrateHz) s)

/-- RD_SP_PCT (R230). -/
def execRdSpPct (s : State) : Result := .next (readReg (.config .spPct) s)

/-- RD_INTERVAL (R231). -/
def execRdInterval (s : State) : Result := .next (readReg (.config .interval) s)

/-- RD_FRAME_ID (R232). -/
def execRdFrameId (s : State) : Result := .next (readReg (.config .frameId) s)

/-- RD_FRAME_DLC (R233). -/
def execRdFrameDlc (s : State) : Result := .next (readReg (.config .frameDlc) s)

/-- RD_BTC (R234). -/
def execRdBtc (s : State) : Result := .next (readReg .btc s)

/-- RD_LAST_TICK (R235). -/
def execRdLastTick (s : State) : Result := .next (readReg .lastTick s)

/-- RD_NOW (R236). -/
def execRdNow (s : State) : Result := .next (readReg .now s)

/-- RD_ELAPSED (R237). -/
def execRdElapsed (s : State) : Result := .next (readReg .elapsed s)

/-- RD_FC_LO (R238). -/
def execRdFcLo (s : State) : Result := .next (readReg .fcLo s)

/-- RD_FC_HI (R239). -/
def execRdFcHi (s : State) : Result := .next (readReg .fcHi s)

end Sys2Proof.Machine
end

