-- ==== Sys2Proof/Machine/RegisterWrites.lean ====
section
/-! DEFINITION. The configuration register writes (43_register_access.md R220 to R226). -/

namespace Sys2Proof.Machine

/-- WR_CLK_HZ (R221). -/
def execWrClkHz (data : Word) (s : State) : Result := .next (writeConfig .clkHz data s)

/-- WR_BITRATE_HZ (R222). -/
def execWrBitrateHz (data : Word) (s : State) : Result := .next (writeConfig .bitrateHz data s)

/-- WR_SP_PCT (R223). -/
def execWrSpPct (data : Word) (s : State) : Result := .next (writeConfig .spPct data s)

/-- WR_INTERVAL (R224). -/
def execWrInterval (data : Word) (s : State) : Result := .next (writeConfig .interval data s)

/-- WR_FRAME_ID (R225). -/
def execWrFrameId (data : Word) (s : State) : Result := .next (writeConfig .frameId data s)

/-- WR_FRAME_DLC (R226). -/
def execWrFrameDlc (data : Word) (s : State) : Result := .next (writeConfig .frameDlc data s)

end Sys2Proof.Machine
end

