-- ==== Sys2Proof/Machine/Scheduler.lean ====
section
/-! DEFINITION. The scheduler's internal steps (41_scheduler.md R170 to R193). -/

namespace Sys2Proof.Machine

/-- Every POLL: take one sample, record it and the elapsed ticks since LAST_TICK (R172). -/
def pollSample (s : State) : State :=
  { s with
    now := sampleCounter s
    elapsed := elapsedTicks s.args.w (sampleCounter s) s.lastTick }

/-- The firing path (R174 to R179): the pacing origin, the frame, DBG, then the transmit request. -/
def pollFire (s : State) : State :=
  let f := frameFor s.frameCounter s
  let s := { s with lastTick := s.now, pending := some f }
  let s := (s.setDbg true).emit .dbgRise
  (s.emit (.hpiTransmitReq f)).setState .transmit

/-- POLL's effect (R172): wait while the elapsed ticks are below INTERVAL (R173), else fire. -/
def pollEffect (s : State) : State :=
  if (pollSample s).elapsed < s.interval then pollSample s else pollFire (pollSample s)

/-- POLL (R172), enabled in AWAIT. -/
def execPoll (s : State) : Result := .next (whenEnabled .await pollEffect s)

/-- The frame counter after an answer: `+1 mod 2^64` on OK, unchanged on ERR (R181, R182). -/
def countAnswer (a : HpiAnswer) (c : BitVec 64) : BitVec 64 :=
  match a with
  | .ok => c + 1#64
  | .err => c

/-- TXDONE's effect (R180): the answer, DBG low, the count, PENDING none, back to AWAIT whatever the answer
(R184). -/
def txdoneEffect (s : State) : State :=
  let a := transmitAnswer s
  let s := s.emit (.hpiTransmitAns a)
  let s := (s.setDbg false).emit .dbgFall
  State.setState .await { s with frameCounter := countAnswer a s.frameCounter, pending := none }

/-- TXDONE (R180), enabled in TRANSMIT. -/
def execTxdone (s : State) : Result := .next (whenEnabled .transmit txdoneEffect s)

end Sys2Proof.Machine
end

