-- ==== Sys2Proof/Machine/Dispatch.lean ====
section
/-! DEFINITION. Which meaning each operation has. -/

namespace Sys2Proof.Machine

/-- One operation on a state: the meaning of its constructor. -/
def exec (i : Instr) (s : State) : Host.Outcome State Fault Refusal :=
  match i with
  | .wrCtrl cw => Sys2Proof.Machine.execWrCtrl cw s
  | .wrClkHz data => Sys2Proof.Machine.execWrClkHz data s
  | .wrBitrateHz data => Sys2Proof.Machine.execWrBitrateHz data s
  | .wrSpPct data => Sys2Proof.Machine.execWrSpPct data s
  | .wrInterval data => Sys2Proof.Machine.execWrInterval data s
  | .wrFrameId data => Sys2Proof.Machine.execWrFrameId data s
  | .wrFrameDlc data => Sys2Proof.Machine.execWrFrameDlc data s
  | .rdStatus => Sys2Proof.Machine.execRdStatus s
  | .rdClkHz => Sys2Proof.Machine.execRdClkHz s
  | .rdBitrateHz => Sys2Proof.Machine.execRdBitrateHz s
  | .rdSpPct => Sys2Proof.Machine.execRdSpPct s
  | .rdInterval => Sys2Proof.Machine.execRdInterval s
  | .rdFrameId => Sys2Proof.Machine.execRdFrameId s
  | .rdFrameDlc => Sys2Proof.Machine.execRdFrameDlc s
  | .rdBtc => Sys2Proof.Machine.execRdBtc s
  | .rdLastTick => Sys2Proof.Machine.execRdLastTick s
  | .rdNow => Sys2Proof.Machine.execRdNow s
  | .rdElapsed => Sys2Proof.Machine.execRdElapsed s
  | .rdFcLo => Sys2Proof.Machine.execRdFcLo s
  | .rdFcHi => Sys2Proof.Machine.execRdFcHi s
  | .nop => Sys2Proof.Machine.execNop s
  | .solve => Sys2Proof.Machine.execSolve s
  | .start => Sys2Proof.Machine.execStart s
  | .poll => Sys2Proof.Machine.execPoll s
  | .txdone => Sys2Proof.Machine.execTxdone s

end Sys2Proof.Machine
end

