-- ==== Sys2Proof/Machine/Fetch.lean ====
section
/-! DEFINITION. How a turn becomes an operation: the block fetches nothing (20_memory.md R93); the next agent's move
selects what is done, through the decoder (30_encoding.md R118). -/

namespace Sys2Proof.Machine

/-- What a turn comes to: an operation to run, or a step already complete without one. -/
inductive Fetched where
  | run (i : Instr) (s : State)
  | done (s : State)

/-- A host transaction: its operation, or a bus error (R118, R262). -/
def hostTurn (hdr : Header) (data : Word) (s : State) : Fetched :=
  match decodeBus hdr data with
  | .ok i => .run i s
  | .error _ => .done (busError hdr s)

/-- A move of the block: the internal step STATE enables (R116), or, in IDLE and HALTED, no effect at all
(R189; log 9). -/
def blockTurn (s : State) : Fetched :=
  match decodeInt s.status.state.code with
  | .ok i => .run i s
  | .error _ => .done s

/-- Take the next turn (R84). -/
def fetch (s : State) : Fetched :=
  match nextTurn s with
  | .host hdr data _ => hostTurn hdr data (takeTurn s)
  | .block _ => blockTurn (takeTurn s)
  | .reset => .done (resetBlock (takeTurn s))

/-- Make a raw operation the next turn: a transaction with its header, a command as the data of a CTRL write, an
internal step by the STATE that selects it (R110, R116; log 10). -/
def placeOp (o : OpWord) (s : State) : State :=
  match o with
  | .bus hdr data => { s with turns := .host hdr data Draws.free :: s.turns }
  | .cmd cw => { s with turns := .host (writeHeader .ctrl) cw Draws.free :: s.turns }
  | .int st => { s.setState (BlockState.ofCode st) with turns := .block Draws.free :: s.turns }

/-- Make the operation behind `nbits` table-numbered bits the next turn (log 10). -/
def placeTableWord (nbits w : Nat) (s : State) : State :=
  match rawOp nbits w with
  | none => s
  | some o => placeOp o s

end Sys2Proof.Machine
end

