-- ==== Sys2Proof/Machine/Assembler.lean ====
section
/-! DEFINITION. The assembler of host programs (30_encoding.md R123, R124): lines, pseudo-instruction expansion, and the
turns a program assembles to. A program is no state of the block; it is what the host and the other agents do
(DEDUCED, log 19). -/

namespace Sys2Proof.Machine

/-- The name the assembler gives a register (R92, R123). -/
def regText : RegName → String
  | .ctrl => "CTRL"
  | .status => "STATUS"
  | .clkHz => "CLK_HZ"
  | .bitrateHz => "BITRATE_HZ"
  | .spPct => "SP_PCT"
  | .interval => "INTERVAL"
  | .frameId => "FRAME_ID"
  | .frameDlc => "FRAME_DLC"
  | .btc => "BTC"
  | .lastTick => "LAST_TICK"
  | .now => "NOW"
  | .elapsed => "ELAPSED"
  | .fcLo => "FC_LO"
  | .fcHi => "FC_HI"

/-- One line of a host program (R123), or a pseudo-instruction (R124). -/
inductive AsmLine where
  /-- `wr NAME, IMM` -/
  | wr (r : RegName) (imm : Word)
  /-- `rd NAME` -/
  | rd (r : RegName)
  /-- `bus HDR[, DATA]` -/
  | bus (hdr : Header) (data : Word)
  /-- `@start now=N cfg=A`: the draws of the START in the line before. -/
  | atStart (now : Word) (cfg : HpiAnswer)
  /-- `@poll now=N` -/
  | atPoll (now : Word)
  /-- `@txdone A` -/
  | atTxdone (a : HpiAnswer)
  /-- `@reset` -/
  | atReset
  | nop
  | solve
  | start
  | setbt (clk br sp : Word)
  | setframe (ident ide dlc : Word)
  | rdfc
deriving DecidableEq, Repr

/-- The expansion of a line (R124); a line that is no pseudo-instruction is its own. -/
def asmExpand : AsmLine → List AsmLine
  | .nop => [.wr .ctrl 0x0#32]
  | .solve => [.wr .ctrl 0x1#32]
  | .start => [.wr .ctrl 0x2#32]
  | .setbt clk br sp => [.wr .clkHz clk, .wr .bitrateHz br, .wr .spPct sp]
  | .setframe ident ide dlc => [.wr .frameId ((ide <<< 31) ||| ident), .wr .frameDlc dlc]
  | .rdfc => [.rd .fcHi, .rd .fcLo, .rd .fcHi]
  | .wr r imm => [.wr r imm]
  | .rd r => [.rd r]
  | .bus hdr data => [.bus hdr data]
  | .atStart now cfg => [.atStart now cfg]
  | .atPoll now => [.atPoll now]
  | .atTxdone a => [.atTxdone a]
  | .atReset => [.atReset]

/-- The draws a following `@start` line fixes for the line before it; none leaves them free (R123). -/
def asmDraws : List AsmLine → Draws
  | .atStart now cfg :: _ => ⟨some now, some cfg⟩
  | _ => Draws.free

/-- The turns of one expanded line, given its draws. Pseudo-instructions are expanded before. -/
def asmTurns (d : Draws) : AsmLine → List Turn
  | .wr r imm => [memWriteTurn (regOffset r) imm d]
  | .rd r => [memReadTurn (regOffset r)]
  | .bus hdr data => [.host hdr data d]
  | .atPoll now => [.block ⟨some now, none⟩]
  | .atTxdone a => [.block ⟨none, some a⟩]
  | .atReset => [.reset]
  | .atStart _ _ | .nop | .solve | .start | .setbt _ _ _ | .setframe _ _ _ | .rdfc => []

/-- The turns of expanded lines. -/
def asmLines : List AsmLine → List Turn
  | [] => []
  | l :: rest => asmTurns (asmDraws rest) l ++ asmLines rest

/-- The turns a program assembles to. -/
def assemble (prog : List AsmLine) : List Turn := asmLines (prog.flatMap asmExpand)

/-- A state whose next moves are a program's. -/
def State.withProgram (prog : List AsmLine) (s : State) : State := { s with turns := s.turns ++ assemble prog }

end Sys2Proof.Machine
end

