-- ==== Sys2Proof/Safety.lean ====
section
/-! DEFINITION. What claims about runs are stated in: the invariants of the block (10_state.md section 7) and readings
of the event trace (20_memory.md R88, R89; 41_scheduler.md R186, R187, R192). -/

namespace Sys2Proof.Machine

/-- The scheduler is running (R170). -/
abbrev State.running (s : State) : Prop := s.status.state = .await ∨ s.status.state = .transmit

/-- No START has entered the schedule since reset. -/
abbrev State.unstarted (s : State) : Prop := s.status.state = .idle ∨ s.status.state = .halted

/-- BTC holds the encoding of a configuration in the ranges of R38, within the quanta bound of R39. -/
def BtcLegal (b : Word) : Prop :=
  ∃ p ps1 ps2, 1 ≤ p ∧ p ≤ 1024 ∧ 1 ≤ ps1 ∧ ps1 ≤ 16 ∧ 1 ≤ ps2 ∧ ps2 ≤ 8 ∧ 1 + ps1 + ps2 ≤ 25 ∧
    b = encBtc (.config p ps1 ps2)

/-- BTC holds the solver's configuration for the configuration registers as they stand. -/
def BtcIsSolved (s : State) : Prop :=
  ∃ p ps1 ps2, solveFn s.clkHz s.bitrateHz s.spPct = .config p ps1 ps2 ∧ s.btc = encBtc (.config p ps1 ps2)

/-- The invariants of a reachable state. -/
structure Inv (s : State) : Prop where
  /-- W is an argument the spec allows (R7). -/
  args_wf : s.args.wf
  /-- LAST_TICK, NOW and ELAPSED are W-bit values (R40 to R42). -/
  ticks_fit : s.lastTick.toNat < 2 ^ s.args.w ∧ s.now.toNat < 2 ^ s.args.w ∧ s.elapsed.toNat < 2 ^ s.args.w
  /-- DBG is 1 exactly in TRANSMIT (R56). -/
  dbg_iff_transmit : s.status.dbg = true ↔ s.status.state = .transmit
  /-- PENDING holds a frame exactly in TRANSMIT (R56). -/
  pending_iff_transmit : s.pending.isSome = true ↔ s.status.state = .transmit
  /-- That frame is FRAME(FRAME_COUNTER) of the registers as they stand (R175, R314). -/
  pending_is_frame : ∀ f, s.pending = some f → f = frameFor s.frameCounter s
  /-- A running block has RESULT = OK (R57). -/
  running_result : s.running → s.status.result = .ok
  /-- and the solved configuration in BTC (R57, R39). -/
  running_btc : s.running → BtcIsSolved s
  /-- and the argument, frame and interval values START checked (R307, R312). -/
  running_checked : s.running → startArgsBad s = false
  /-- HALTED is reached only with NO_SOLUTION or CONFIG_REJECTED, and BTC says which (R57, R209, R210). -/
  halted_cause : s.status.state = .halted →
    (s.status.result = .noSolution ∧ s.btc = 0#32) ∨ (s.status.result = .configRejected ∧ BtcIsSolved s)
  /-- CONFIG_REJECTED is always followed by HALTED (R265). -/
  rejected_halts : s.status.result = .configRejected → s.status.state = .halted
  /-- BTC is 0 or a legal configuration (R38). -/
  btc_legal : s.btc = 0#32 ∨ BtcLegal s.btc
  /-- What RESULT says of BTC (R263). -/
  result_ok : s.status.result = .ok → BtcLegal s.btc
  /-- What RESULT says of BTC (R263). -/
  result_zero : s.status.result = .none ∨ s.status.result = .noSolution ∨ s.status.result = .badArg → s.btc = 0#32
  /-- A host error has set FAULT (R50). -/
  host_error_fault : s.status.result.isHostError = true → s.status.fault = true
  /-- The schedule state is at its reset values until a START succeeds (R58, R274). -/
  unstarted_schedule : s.unstarted →
    s.lastTick = 0#32 ∧ s.now = 0#32 ∧ s.elapsed = 0#32 ∧ s.frameCounter = 0#64

/-- How many transmit answers were OK since the last configure answer or reset (R187). -/
def confirmedStep (n : Nat) : Event → Nat
  | .hpiTransmitAns .ok => n + 1
  | .hpiTransmitAns .err => n
  | .hpiConfigureAns _ => 0
  | .reset => 0
  | .busResp _ _ _ | .hpiInit | .hpiConfigureReq _ _ _ | .dbgRise | .hpiTransmitReq _ | .dbgFall => n

/-- The confirmed transmissions a trace records since START (R187). -/
def confirmed (tr : List Event) : Nat := tr.foldl confirmedStep 0

/-- FRAME_COUNTER is the number of confirmed transmissions, mod 2^64 (R187). -/
def CountsConfirmed (s : State) : Prop := s.running → s.frameCounter = BitVec.ofNat 64 (confirmed s.trace)

/-- Every frame requested carries, in its payload, the number of transmissions confirmed before it (R192). -/
def FramesNumbered (s : State) : Prop :=
  ∀ pre f post, s.trace = pre ++ Event.hpiTransmitReq f :: post →
    f.payload = payload s.args.payloadOrder (BitVec.ofNat 64 (confirmed pre)) f.dataLength.toNat

/-- Where a trace stands in the block's dealings with the HPI since the last reset. -/
inductive Phase where
  /-- No request yet. -/
  | fresh
  /-- HpiInit issued. -/
  | initialised
  /-- Configure requested, not yet answered. -/
  | configuring
  /-- Configure answered ERR. -/
  | rejected
  /-- Configured, no transmit outstanding. -/
  | ready
  /-- DBG risen, the transmit request to follow. -/
  | risen
  /-- A transmit request is outstanding. -/
  | outstanding
  /-- It is answered, DBG to fall. -/
  | answered
deriving DecidableEq, Repr

/-- The next phase, or none where the event is out of order (R88, R89, R178, R183, R208, R210, R213). -/
def phaseStep (ph : Phase) : Event → Option Phase
  | .reset => some .fresh
  | .busResp _ _ _ =>
    match ph with
    | .fresh | .initialised | .rejected | .ready | .outstanding => some ph
    | .configuring | .risen | .answered => none
  | .hpiInit => if ph = .fresh then some .initialised else none
  | .hpiConfigureReq _ _ _ => if ph = .initialised then some .configuring else none
  | .hpiConfigureAns .ok => if ph = .configuring then some .ready else none
  | .hpiConfigureAns .err => if ph = .configuring then some .rejected else none
  | .dbgRise => if ph = .ready then some .risen else none
  | .hpiTransmitReq _ => if ph = .risen then some .outstanding else none
  | .hpiTransmitAns _ => if ph = .outstanding then some .answered else none
  | .dbgFall => if ph = .answered then some .ready else none

/-- The phase a whole trace leaves, if every event of it is in order. -/
def phaseOf (tr : List Event) : Option Phase := tr.foldlM phaseStep .fresh

/-- The phase the control state stands for. -/
def phaseFor (s : State) : Option Phase :=
  match s.status.state with
  | .idle => some .fresh
  | .await => some .ready
  | .transmit => some .outstanding
  | .halted =>
    match s.status.result with
    | .noSolution => some .initialised
    | .configRejected => some .rejected
    | .none | .ok | .badArg | .badCmd => none

/-- The trace is in order and the control state is where it leaves the block. -/
def FollowsProtocol (s : State) : Prop := ∃ ph, phaseFor s = some ph ∧ phaseOf s.trace = some ph

/-- An event the host's bus sees. -/
def Event.isBus : Event → Bool
  | .busResp _ _ _ => true
  | .hpiInit | .hpiConfigureReq _ _ _ | .hpiConfigureAns _ | .dbgRise | .hpiTransmitReq _ | .hpiTransmitAns _
  | .dbgFall | .reset => false

end Sys2Proof.Machine
end

