-- ==== Sys2Proof/Certificates/Slice0/Obligations.lean ====
section
/-! DEFINITION. The statements for the provers. Each docstring names the rule of spec/ it rests on. -/

namespace Sys2Proof.Machine

/-- The illegal headers, as R119 lists them. -/
def IllegalHeader (hdr : Header) : Prop :=
  hdr.extractLsb' 7 2 ≠ 0b10#2 ∨ hdr.extractLsb' 0 2 ≠ 0b00#2 ∨ hdr.extractLsb' 0 6 ∈ [0x38#6, 0x3C#6] ∨
    (hdr.getLsbD 6 = false ∧ hdr.extractLsb' 0 6 = 0x00#6) ∨
    (hdr.getLsbD 6 = true ∧ hdr.extractLsb' 0 6 ∈ [0x04#6, 0x20#6, 0x24#6, 0x28#6, 0x2C#6, 0x30#6, 0x34#6])

/-- The write headers of R113. -/
def writeHeaders : List Header := [0x140#9, 0x148#9, 0x14C#9, 0x150#9, 0x154#9, 0x158#9, 0x15C#9]

/-- The read headers of R113. -/
def readHeaders : List Header :=
  [0x104#9, 0x108#9, 0x10C#9, 0x110#9, 0x114#9, 0x118#9, 0x11C#9, 0x120#9, 0x124#9, 0x128#9, 0x12C#9, 0x130#9,
    0x134#9]

/-- A reserved command word (R120). -/
def ReservedWord (cw : Word) : Prop := cw.extractLsb' 4 28 ≠ 0#28 ∨ 3 ≤ (cw.extractLsb' 0 4).toNat

/-- The solver's contract (R141). -/
def InContract (clk br sp : Word) : Prop := clk ≠ 0#32 ∧ br ≠ 0#32 ∧ 1 ≤ sp.toNat ∧ sp.toNat ≤ 99

/-- The checks START makes before any HPI request (R205 to R207). -/
def StartChecksPass (s : State) : Prop :=
  InContract s.clkHz s.bitrateHz s.spPct ∧
    ((s.frameId.getLsbD 31 = true ∧ (s.frameId.extractLsb' 0 31).toNat < 2 ^ 29) ∨
      (s.frameId.getLsbD 31 = false ∧ (s.frameId.extractLsb' 0 31).toNat < 2 ^ 11)) ∧
    s.frameDlc.toNat ≤ 8 ∧ s.interval.toNat < 2 ^ (s.args.w - 1)

/-- Prescaler `p` passes the tests of R143, R144 and R145. -/
def Fits (clk br : Word) (p : Nat) : Prop :=
  clk.toNat % p = 0 ∧ clk.toNat / p % br.toNat = 0 ∧ clk.toNat / p / br.toNat ≤ 25

/-- `p` is the first of 1 to 1024 that passes (R142, R146). -/
def FirstFit (clk br : Word) (p : Nat) : Prop :=
  1 ≤ p ∧ p ≤ 1024 ∧ Fits clk br p ∧ ∀ q, 1 ≤ q → q < p → ¬ Fits clk br q

/-- The split of R149 and R150 for `tq` quanta is in the bounds of R151. -/
def SplitValid (sp tq a b : Nat) : Prop :=
  a = (sp * (tq - 1) + 50) / 100 ∧ b = tq - 1 - a ∧ 1 ≤ a ∧ a ≤ 16 ∧ 1 ≤ b ∧ b ≤ 8

/-- A write of a configuration register. -/
def isConfigWrite : Instr → Bool
  | .wrClkHz _ | .wrBitrateHz _ | .wrSpPct _ | .wrInterval _ | .wrFrameId _ | .wrFrameDlc _ => true
  | .wrCtrl _ | .nop | .solve | .start | .poll | .txdone => false
  | .rdStatus | .rdClkHz | .rdBitrateHz | .rdSpPct | .rdInterval | .rdFrameId | .rdFrameDlc => false
  | .rdBtc | .rdLastTick | .rdNow | .rdElapsed | .rdFcLo | .rdFcHi => false

/-- The command an operation carries to CTRL, if it is a CTRL write. -/
def commandOf : Instr → Option Command
  | .wrCtrl cw => some (decodeCmd cw)
  | .nop => some .nop
  | .solve => some .solve
  | .start => some .start
  | .wrClkHz _ | .wrBitrateHz _ | .wrSpPct _ | .wrInterval _ | .wrFrameId _ | .wrFrameDlc _ => none
  | .rdStatus | .rdClkHz | .rdBitrateHz | .rdSpPct | .rdInterval | .rdFrameId | .rdFrameDlc => none
  | .rdBtc | .rdLastTick | .rdNow | .rdElapsed | .rdFcLo | .rdFcHi | .poll | .txdone => none

/-- Two states that agree on everything but DBG, WIGN, FAULT and the trace. -/
def SameButFlags (s t : State) : Prop :=
  t = { s with
    status := { s.status with dbg := t.status.dbg, wign := t.status.wign, fault := t.status.fault }
    trace := t.trace }

/-- The six configuration registers are equal. -/
def SameConfig (s t : State) : Prop :=
  t.clkHz = s.clkHz ∧ t.bitrateHz = s.bitrateHz ∧ t.spPct = s.spPct ∧ t.interval = s.interval ∧
    t.frameId = s.frameId ∧ t.frameDlc = s.frameDlc

end Sys2Proof.Machine

open Sys2Proof Sys2Proof.Machine

/-! ## Encoding -/

/-- Decoding an encoded operation gives it back; a raw operation that decodes is the encoding of what it decodes to,
up to the data lane a read does not carry; and exactly the well-formed raw operations decode (R111 to R118). -/
def Obligations.DecodeAndEncodeAgree : Prop :=
  (∀ i : Instr, decode (encode i) = .ok i) ∧
  (∀ (o : OpWord) (i : Instr), decode o = .ok i → encode i = o.canonical) ∧
  (∀ o : OpWord, (∃ i, decode o = .ok i) ↔ o.wf = true)

/-- R119, R262: the illegal headers are exactly those listed, the complement of the 20 of R113, and a transaction with
one ends in SLVERR with rdata 0 and changes nothing. -/
def Obligations.IllegalHeadersEndInABusError : Prop :=
  ∀ (hdr : Header) (data : Word),
    (IllegalHeader hdr ↔ hdr ∉ writeHeaders ++ readHeaders) ∧
    (IllegalHeader hdr ↔ ¬ ∃ i, decodeBus hdr data = .ok i) ∧
    (∀ (s : State) d rest, s.turns = .host hdr data d :: rest → IllegalHeader hdr →
      step s = .next { takeTurn s with trace := s.trace ++ [.busResp hdr 0#32 .slverr] })

/-- R115, R118, R120: which command words are NOP, SOLVE and START, and that every other one is reserved. -/
def Obligations.CommandWordsDecode : Prop :=
  ∀ cw : Word,
    (decodeCmd cw = .nop ↔ cw = 0x0000_0000#32) ∧ (decodeCmd cw = .solve ↔ cw = 0x0000_0001#32) ∧
    (decodeCmd cw = .start ↔ cw = 0x0000_0002#32) ∧ (decodeCmd cw = .reserved ↔ ReservedWord cw)

/-- A few words of R113, R115 and R116, as the spec writes them, and the operations they stand for. -/
def Obligations.SampleWordsDecode : Prop :=
  decode (.bus 0x140#9 0x2#32) = .ok (.wrCtrl 0x2#32) ∧ decode (.bus 0b101001000#9 36000000#32) = .ok (.wrClkHz 36000000#32) ∧
  decode (.bus 0b100100100#9 0#32) = .ok .rdLastTick ∧ decode (.bus 0x100#9 0#32) = .error .readOfWriteOnly ∧
  decode (.cmd 0x0000_0001#32) = .ok .solve ∧ decode (.cmd 0x0000_0011#32) = .error .reservedCommand ∧
  decode (.int 0b01#2) = .ok .poll ∧ decode (.int 0b10#2) = .ok .txdone

/-! ## A step -/

/-- A step takes one turn, whole (R84): it runs exactly the operation the turn decodes to, a reset, or, for a move of
the block in IDLE or HALTED, nothing (R116, R189); the turn leaves the list and its draws stand at the ports. The list
of turns is the model's own (log 1). -/
def Obligations.StepRunsTheDecodedOperation : Prop :=
  ∀ s : State,
    (∀ hdr data d rest i, s.turns = .host hdr data d :: rest → decodeBus hdr data = .ok i →
      step s = exec i (takeTurn s)) ∧
    (∀ d rest, s.turns = .block d :: rest ∨ s.turns = [] →
      (s.status.state = .await → step s = exec .poll (takeTurn s)) ∧
      (s.status.state = .transmit → step s = exec .txdone (takeTurn s)) ∧
      (s.status.state = .idle ∨ s.status.state = .halted → step s = .next (takeTurn s))) ∧
    (∀ rest, s.turns = .reset :: rest → step s = .next (resetBlock (takeTurn s))) ∧
    (∀ t rest, s.turns = t :: rest →
      takeTurn s = { s with turns := rest, ports := ⟨t.draws.counter, t.draws.hpi, s.ports.index + 1⟩ }) ∧
    (s.turns = [] → takeTurn s = { s with ports := ⟨none, none, s.ports.index + 1⟩ })

/-- A CTRL write turn whose data is a command word runs that command's operation (R110, R200). -/
def Obligations.CtrlTurnRunsItsCommand : Prop :=
  ∀ (s : State) cw d rest, s.turns = .host 0x140#9 cw d :: rest →
    (cw = 0x0000_0000#32 → step s = exec .nop (takeTurn s)) ∧
    (cw = 0x0000_0001#32 → step s = exec .solve (takeTurn s)) ∧
    (cw = 0x0000_0002#32 → step s = exec .start (takeTurn s))

/-- Placing any operation's encoding as the next turn makes the very next step run that operation. -/
def Obligations.PlacedOperationRuns : Prop :=
  ∀ (i : Instr) (s : State), step (placeOp (encode i) s) = exec i (takeTurn (placeOp (encode i) s))

/-- Every step answers a next state: no outcome of the block stops it (R261). -/
def Obligations.EveryStepAnswersNext : Prop := ∀ s : State, ∃ t, step s = .next t

/-- Every host transaction emits exactly one BusResp, first, with its own header; a move of the block emits none; reset
emits Reset alone; and nothing is ever taken back from the trace (R88). -/
def Obligations.TraceGrowsByWhatTheTurnEmits : Prop :=
  ∀ s t : State, step s = .next t → ∃ es, t.trace = s.trace ++ es ∧
    (∀ hdr data d, nextTurn s = .host hdr data d →
      ∃ v r rest, es = .busResp hdr v r :: rest ∧ ∀ e ∈ rest, e.isBus = false) ∧
    (∀ d, nextTurn s = .block d → ∀ e ∈ es, e.isBus = false) ∧
    (nextTurn s = .reset → es = [.reset])

/-! ## Reset -/

/-- R300: reset, in any state, puts every register at its reset value, PENDING none and DBG low, and emits Reset and
nothing else. -/
def Obligations.ResetPutsEveryRegisterAtItsResetValue : Prop :=
  ∀ (s : State) rest, s.turns = .reset :: rest → ∃ t, step s = .next t ∧
    t.clkHz = 0#32 ∧ t.bitrateHz = 0#32 ∧ t.spPct = 0#32 ∧ t.interval = 0#32 ∧ t.frameId = 0#32 ∧ t.frameDlc = 0#32 ∧
    t.btc = 0#32 ∧ t.lastTick = 0#32 ∧ t.now = 0#32 ∧ t.elapsed = 0#32 ∧ t.frameCounter = 0#64 ∧
    t.status.word = 0x0000_0000#32 ∧ t.status.state = .idle ∧ t.status.result = .none ∧ t.dbgPin = false ∧
    t.pending = none ∧ t.trace = s.trace ++ [.reset] ∧ t.args = s.args ∧ t.turns = rest

/-- R301: a reset while a transmit is outstanding abandons it: the block's next move takes no answer, counts nothing
and emits nothing. -/
def Obligations.ResetAbandonsTheTransmit : Prop :=
  ∀ (s : State) d rest, s.status.state = .transmit → s.turns = .reset :: .block d :: rest →
    ∃ t u, step s = .next t ∧ step t = .next u ∧ u.status.state = .idle ∧ u.pending = none ∧
      u.frameCounter = 0#64 ∧ u.trace = s.trace ++ [.reset]

/-! ## Register access -/

/-- R220: a configuration write answers OKAY in every state; in IDLE it stores all 32 bits and nothing else changes;
elsewhere it is ignored and sets WIGN. -/
def Obligations.ConfigurationWritesAreGated : Prop :=
  ∀ (s : State) (data : Word),
    (s.status.state = .idle →
      exec (.wrClkHz data) s = .next { s with clkHz := data, trace := s.trace ++ [.busResp 0x148#9 0#32 .okay] } ∧
      exec (.wrBitrateHz data) s = .next { s with bitrateHz := data, trace := s.trace ++ [.busResp 0x14C#9 0#32 .okay] } ∧
      exec (.wrSpPct data) s = .next { s with spPct := data, trace := s.trace ++ [.busResp 0x150#9 0#32 .okay] } ∧
      exec (.wrInterval data) s = .next { s with interval := data, trace := s.trace ++ [.busResp 0x154#9 0#32 .okay] } ∧
      exec (.wrFrameId data) s = .next { s with frameId := data, trace := s.trace ++ [.busResp 0x158#9 0#32 .okay] } ∧
      exec (.wrFrameDlc data) s = .next { s with frameDlc := data, trace := s.trace ++ [.busResp 0x15C#9 0#32 .okay] }) ∧
    (s.status.state ≠ .idle →
      ∀ i hdr, (i, hdr) ∈ [(Instr.wrClkHz data, 0x148#9), (.wrBitrateHz data, 0x14C#9), (.wrSpPct data, 0x150#9),
          (.wrInterval data, 0x154#9), (.wrFrameId data, 0x158#9), (.wrFrameDlc data, 0x15C#9)] →
        exec i s = .next { s with
          status := { s.status with wign := true }, trace := s.trace ++ [.busResp hdr 0#32 .okay] })

/-- A read of a configuration register answers OKAY with the register's value and changes nothing (R228 to R233). -/
def Obligations.ConfigurationReadsReturnTheRegisters : Prop :=
  ∀ s : State,
    exec .rdClkHz s = .next { s with trace := s.trace ++ [.busResp 0x108#9 s.clkHz .okay] } ∧
    exec .rdBitrateHz s = .next { s with trace := s.trace ++ [.busResp 0x10C#9 s.bitrateHz .okay] } ∧
    exec .rdSpPct s = .next { s with trace := s.trace ++ [.busResp 0x110#9 s.spPct .okay] } ∧
    exec .rdInterval s = .next { s with trace := s.trace ++ [.busResp 0x114#9 s.interval .okay] } ∧
    exec .rdFrameId s = .next { s with trace := s.trace ++ [.busResp 0x118#9 s.frameId .okay] } ∧
    exec .rdFrameDlc s = .next { s with trace := s.trace ++ [.busResp 0x11C#9 s.frameDlc .okay] }

/-- A read of BTC, a tick register or half of the frame counter answers OKAY with its value, W-bit registers
zero-extended, and changes nothing (R234 to R239, R44). -/
def Obligations.ResultReadsReturnTheRegisters : Prop :=
  ∀ s : State, s.args.wf →
    exec .rdBtc s = .next { s with trace := s.trace ++ [.busResp 0x120#9 s.btc .okay] } ∧
    (∀ (i : Instr) hdr v, (i, hdr, v) ∈ [(Instr.rdLastTick, 0x124#9, s.lastTick), (.rdNow, 0x128#9, s.now),
        (.rdElapsed, 0x12C#9, s.elapsed)] →
      ∃ x : Word, exec i s = .next { s with trace := s.trace ++ [.busResp hdr x .okay] } ∧
        (∀ k, x.getLsbD k = (decide (k < s.args.w) && v.getLsbD k)) ∧ (v.toNat < 2 ^ s.args.w → x = v)) ∧
    (∃ lo hi : Word, exec .rdFcLo s = .next { s with trace := s.trace ++ [.busResp 0x130#9 lo .okay] } ∧
      exec .rdFcHi s = .next { s with trace := s.trace ++ [.busResp 0x134#9 hi .okay] } ∧
      s.frameCounter.toNat = hi.toNat * 2 ^ 32 + lo.toNat)

/-- R227: a read of STATUS answers its fields in the layout of R45, reserved bits 0, and changes nothing. -/
def Obligations.StatusReadsItsFields : Prop :=
  ∀ s : State, ∃ v : Word, exec .rdStatus s = .next { s with trace := s.trace ++ [.busResp 0x104#9 v .okay] } ∧
    (v.extractLsb' 0 2).toNat =
      (match s.status.state with | .idle => 0 | .await => 1 | .transmit => 2 | .halted => 3) ∧
    v.extractLsb' 2 2 = 0#2 ∧
    (v.extractLsb' 4 4).toNat =
      (match s.status.result with
        | .none => 0 | .ok => 1 | .noSolution => 2 | .configRejected => 3 | .badArg => 4 | .badCmd => 5) ∧
    v.getLsbD 8 = s.status.dbg ∧ v.getLsbD 9 = s.status.wign ∧ v.getLsbD 10 = s.status.fault ∧
    v.extractLsb' 11 21 = 0#21

/-- No read has a side effect: a transaction with W = 0, legal or not, changes only the trace, by its own response
(R86, R262). -/
def Obligations.ReadsHaveNoSideEffect : Prop :=
  ∀ (s : State) hdr data d rest, s.turns = .host hdr data d :: rest → hdr.getLsbD 6 = false →
    ∃ v r, step s = .next { takeTurn s with trace := s.trace ++ [.busResp hdr v r] }

/-- What is written to a configuration register in IDLE is what the next transaction reads from it (R90, R117, R310). -/
def Obligations.ConfigurationReadsBackWhatWasWritten : Prop :=
  ∀ (s : State) (v x : Word) d e rest wh rh,
    (wh, rh) ∈ [(0x148#9, 0x108#9), (0x14C#9, 0x10C#9), (0x150#9, 0x110#9), (0x154#9, 0x114#9), (0x158#9, 0x118#9),
      (0x15C#9, 0x11C#9)] →
    s.status.state = .idle → s.turns = .host wh v d :: .host rh x e :: rest →
    ∃ t u, step s = .next t ∧ step t = .next u ∧
      u.trace = s.trace ++ [.busResp wh 0#32 .okay, .busResp rh v .okay] ∧ u.status = s.status

/-- A tear-safe read of the 64-bit counter, one move of the block between its transactions: if the two high halves
agree, they and the low half are the counter as the low half was read (R309). -/
def Obligations.TearSafeReadIsTheCounter : Prop :=
  ∀ (s a b c e f : State) (h1 l h2 x1 x2 x3 : Word) d1 d2 d3 d4 d5 rest,
    s.turns = .host 0x134#9 x1 d1 :: .block d2 :: .host 0x130#9 x2 d3 :: .block d4 :: .host 0x134#9 x3 d5 :: rest →
    step s = .next a → step a = .next b → step b = .next c → step c = .next e → step e = .next f →
    a.trace = s.trace ++ [.busResp 0x134#9 h1 .okay] → c.trace = b.trace ++ [.busResp 0x130#9 l .okay] →
    f.trace = e.trace ++ [.busResp 0x134#9 h2 .okay] → h1 = h2 → h1 ++ l = c.frameCounter

/-! ## Commands -/

/-- R200, R201: a CTRL write answers OKAY in every state; outside IDLE, whatever its word, it only sets WIGN. -/
def Obligations.CommandsOutsideIdleAreIgnored : Prop :=
  ∀ (s : State) (cw : Word), s.status.state ≠ .idle → ∀ i ∈ [Instr.wrCtrl cw, .nop, .solve, .start],
    exec i s = .next { s with
      status := { s.status with wign := true }, trace := s.trace ++ [.busResp 0x140#9 0#32 .okay] }

/-- R202: NOP has no effect but its response; outside IDLE it is an ignored write, which sets WIGN. -/
def Obligations.NopHasNoEffect : Prop :=
  ∀ s : State,
    (s.status.state = .idle →
      exec .nop s = .next { s with trace := s.trace ++ [.busResp 0x140#9 0#32 .okay] }) ∧
    (s.status.state ≠ .idle → exec .nop s = .next { s with
      status := { s.status with wign := true }, trace := s.trace ++ [.busResp 0x140#9 0#32 .okay] })

/-- In IDLE a CTRL write runs the command its word spells, and completes (R200). -/
def Obligations.CtrlWriteRunsItsCommand : Prop :=
  ∀ (s : State) (cw : Word), s.status.state = .idle → ∃ t, exec (.wrCtrl cw) s = .next t ∧
    (cw = 0#32 → exec .nop s = .next t) ∧ (cw = 1#32 → exec .solve s = .next t) ∧
    (cw = 2#32 → exec .start s = .next t) ∧
    (ReservedWord cw → t = { s with
      status := { s.status with result := .badCmd, fault := true }
      trace := s.trace ++ [.busResp 0x140#9 0#32 .okay] })

/-- R203: SOLVE writes the encoded result to BTC and its code to RESULT, sets FAULT on BadArg alone, and changes nothing
else. -/
def Obligations.SolveReportsTheSolverResult : Prop :=
  ∀ s : State, s.status.state = .idle →
    (∀ p a b, solveFn s.clkHz s.bitrateHz s.spPct = .config p a b → exec .solve s = .next { s with
      btc := encBtc (.config p a b), status := { s.status with result := .ok }
      trace := s.trace ++ [.busResp 0x140#9 0#32 .okay] }) ∧
    (solveFn s.clkHz s.bitrateHz s.spPct = .noSolution → exec .solve s = .next { s with
      btc := 0#32, status := { s.status with result := .noSolution }
      trace := s.trace ++ [.busResp 0x140#9 0#32 .okay] }) ∧
    (¬ InContract s.clkHz s.bitrateHz s.spPct → exec .solve s = .next { s with
      btc := 0#32, status := { s.status with result := .badArg, fault := true }
      trace := s.trace ++ [.busResp 0x140#9 0#32 .okay] })

/-- R205, R206, R207: a START whose solver arguments, frame descriptor or interval is out of range writes BTC 0, BAD_ARG
and FAULT, stays in IDLE and issues no HPI request. -/
def Obligations.StartRejectsBadArguments : Prop :=
  ∀ s : State, s.status.state = .idle → ¬ StartChecksPass s → exec .start s = .next { s with
    btc := 0#32, status := { s.status with result := .badArg, fault := true }
    trace := s.trace ++ [.busResp 0x140#9 0#32 .okay] }

/-- R208 to R211: past its checks START issues HpiInit, then halts on NoSolution, halts on a rejected configuration,
which BTC keeps, or starts the schedule at the counter sample and enters AWAIT. -/
def Obligations.StartRunsTheStartUpSequence : Prop :=
  ∀ s : State, s.status.state = .idle → StartChecksPass s →
    (solveFn s.clkHz s.bitrateHz s.spPct ≠ .badArg) ∧
    (solveFn s.clkHz s.bitrateHz s.spPct = .noSolution → exec .start s = .next { s with
      btc := 0#32, status := { s.status with result := .noSolution, state := .halted }
      trace := s.trace ++ [.busResp 0x140#9 0#32 .okay, .hpiInit] }) ∧
    (∀ p a b, solveFn s.clkHz s.bitrateHz s.spPct = .config p a b →
      (configureAnswer s = .err → exec .start s = .next { s with
        btc := encBtc (.config p a b), status := { s.status with result := .configRejected, state := .halted }
        trace := s.trace ++
          [.busResp 0x140#9 0#32 .okay, .hpiInit, .hpiConfigureReq p a b, .hpiConfigureAns .err] }) ∧
      (configureAnswer s = .ok → exec .start s = .next { s with
        btc := encBtc (.config p a b), status := { s.status with result := .ok, state := .await }
        now := sampleCounter s, lastTick := sampleCounter s, elapsed := 0#32, frameCounter := 0#64
        trace := s.trace ++
          [.busResp 0x140#9 0#32 .okay, .hpiInit, .hpiConfigureReq p a b, .hpiConfigureAns .ok] }))

/-! ## The solver -/

/-- R141: the solver answers BadArg exactly outside its contract. -/
def Obligations.SolverRejectsExactlyOutsideItsContract : Prop :=
  ∀ clk br sp : Word, solveFn clk br sp = .badArg ↔ ¬ InContract clk br sp

/-- The solver answers Config(p, ps1, ps2) exactly when p is the first fit and the split of its quanta is in bounds
(R142 to R153). -/
def Obligations.SolverAnswersExactlyTheFirstFitSplit : Prop :=
  ∀ (clk br sp : Word) (p a b : Nat), solveFn clk br sp = .config p a b ↔
    InContract clk br sp ∧ FirstFit clk br p ∧ SplitValid sp.toNat (clk.toNat / p / br.toNat) a b

/-- The solver answers NoSolution exactly when no prescaler fits or the first one's split is out of bounds; it never
resumes at a larger prescaler (R147, R151, R152). -/
def Obligations.SolverFailsExactlyWithoutAFirstFitSplit : Prop :=
  ∀ clk br sp : Word, solveFn clk br sp = .noSolution ↔
    InContract clk br sp ∧ ((∀ p, 1 ≤ p → p ≤ 1024 → ¬ Fits clk br p) ∨
      ∃ p, FirstFit clk br p ∧ ∀ a b, ¬ SplitValid sp.toNat (clk.toNat / p / br.toNat) a b)

/-- R157: every configuration satisfies clk = p × (1 + ps1 + ps2) × br exactly, with at most 25 quanta. -/
def Obligations.SolvedSegmentsSumExactly : Prop :=
  ∀ (clk br sp : Word) (p a b : Nat), solveFn clk br sp = .config p a b →
    1 + a + b = clk.toNat / (p * br.toNat) ∧ clk.toNat % p = 0 ∧ clk.toNat / p % br.toNat = 0 ∧
    clk.toNat = p * (1 + a + b) * br.toNat ∧ 1 + a + b ≤ 25

/-- R158: a returned prescaler is the smallest in [1, 1024] that passes the three tests. -/
def Obligations.SolvedPrescalerIsTheSmallest : Prop :=
  ∀ (clk br sp : Word) (p a b : Nat), solveFn clk br sp = .config p a b →
    1 ≤ p ∧ p ≤ 1024 ∧ Fits clk br p ∧ ∀ q, 1 ≤ q → q ≤ 1024 → Fits clk br q → p ≤ q

/-- The first fit has the most quanta of all candidates that pass the divisibility tests with at most 25 (R160). -/
def Obligations.FirstFitHasTheMostQuanta : Prop :=
  ∀ (clk br sp : Word) (p a b q : Nat), solveFn clk br sp = .config p a b → 1 ≤ q → q ≤ 1024 → Fits clk br q →
    clk.toNat / q / br.toNat ≤ 1 + a + b

/-- R159: an encoded configuration in range holds PRESCALER in bits 10:0, PS1 in 20:16, PS2 in 27:24 and VALID in 31,
reserved bits 0; NoSolution and BadArg are encoded as 0. -/
def Obligations.EncodedConfigurationReadsBack : Prop :=
  (encBtc .noSolution = 0x0000_0000#32 ∧ encBtc .badArg = 0x0000_0000#32) ∧
  ∀ p a b : Nat, p ≤ 1024 → a ≤ 16 → b ≤ 8 →
    btcPrescaler (encBtc (.config p a b)) = p ∧ btcPs1 (encBtc (.config p a b)) = a ∧
    btcPs2 (encBtc (.config p a b)) = b ∧ btcValid (encBtc (.config p a b)) = true ∧
    (encBtc (.config p a b)).extractLsb' 11 5 = 0#5 ∧ (encBtc (.config p a b)).extractLsb' 21 3 = 0#3 ∧
    (encBtc (.config p a b)).extractLsb' 28 3 = 0#3

/-- A datapath of any width of at least 32 bits gives the natural-number solver's results (R156). The spec gives no
datapath: `solveDatapath` is the model's own reading of one, and no operation uses it (DEDUCED, log 11). -/
def Obligations.WideDatapathMatchesTheSolver : Prop :=
  ∀ (n : Nat) (clk br sp : Word), 32 ≤ n →
    solveDatapath n (clk.setWidth n) (br.setWidth n) (sp.setWidth n) = solveFn clk br sp

/-- The rows of the split table that have a passing range: (tq, lowest sp, highest sp), with the split at each end
(R161). -/
def Obligations.SplitTableHolds : Prop :=
  ∀ row ∈ [(3, 25, 74, (1, 1), (1, 1)), (4, 17, 83, (1, 2), (2, 1)), (5, 13, 87, (1, 3), (3, 1)),
      (6, 10, 89, (1, 4), (4, 1)), (7, 9, 91, (1, 5), (5, 1)), (8, 8, 92, (1, 6), (6, 1)),
      (9, 7, 93, (1, 7), (7, 1)), (10, 6, 94, (1, 8), (8, 1)), (11, 15, 94, (2, 8), (9, 1)),
      (12, 23, 95, (3, 8), (10, 1)), (13, 30, 95, (4, 8), (11, 1)), (14, 35, 96, (5, 8), (12, 1)),
      (15, 40, 96, (6, 8), (13, 1)), (16, 44, 96, (7, 8), (14, 1)), (17, 47, 96, (8, 8), (15, 1)),
      (18, 50, 97, (9, 8), (16, 1)), (19, 53, 91, (10, 8), (16, 2)), (20, 56, 86, (11, 8), (16, 3)),
      (21, 58, 82, (12, 8), (16, 4)), (22, 60, 78, (13, 8), (16, 5)), (23, 62, 74, (14, 8), (16, 6)),
      (24, 64, 71, (15, 8), (16, 7)), (25, 65, 68, (16, 8), (16, 8))],
    (∀ sp, 1 ≤ sp → sp ≤ 99 → ((∃ a b, splitAt sp 1 row.1 = .config 1 a b) ↔ row.2.1 ≤ sp ∧ sp ≤ row.2.2.1)) ∧
    splitAt row.2.1 1 row.1 = .config 1 row.2.2.2.1.1 row.2.2.2.1.2 ∧
    splitAt row.2.2.1 1 row.1 = .config 1 row.2.2.2.2.1 row.2.2.2.2.2 ∧
    (∀ sp, 1 ≤ sp → sp ≤ 99 → splitAt sp 1 1 = .noSolution ∧ splitAt sp 1 2 = .noSolution)

/-! ## The scheduler -/

/-- R172 to R179: POLL samples once, records the sample and the modular elapsed ticks, and either waits, changing
nothing else, or fires: LAST_TICK takes the sample, PENDING the frame, DBG rises before the one transmit request, and
STATE becomes TRANSMIT. -/
def Obligations.PollWaitsOrFires : Prop :=
  ∀ (s : State) (e : Nat), s.status.state = .await → s.args.wf → s.lastTick.toNat < 2 ^ s.args.w →
    e = ((sampleCounter s).toNat + 2 ^ s.args.w - s.lastTick.toNat) % 2 ^ s.args.w →
    (e < s.interval.toNat → exec .poll s = .next { s with
      now := sampleCounter s, elapsed := BitVec.ofNat 32 e }) ∧
    (s.interval.toNat ≤ e → ∀ f : Frame, f.identifier = s.frameId.extractLsb' 0 31 →
      f.isExtended = s.frameId.getLsbD 31 → f.dataLength = s.frameDlc →
      f.payload = payload s.args.payloadOrder s.frameCounter s.frameDlc.toNat →
      exec .poll s = .next { s with
        now := sampleCounter s, elapsed := BitVec.ofNat 32 e, lastTick := sampleCounter s, pending := some f
        status := { s.status with dbg := true, state := .transmit }
        trace := s.trace ++ [.dbgRise, .hpiTransmitReq f] })

/-- R180 to R184: TXDONE takes the answer, lowers DBG after it, counts an OK and only an OK, clears PENDING and returns
to AWAIT; nothing else changes. -/
def Obligations.TxdoneCountsOnlySuccess : Prop :=
  ∀ s : State, s.status.state = .transmit →
    (transmitAnswer s = .ok → exec .txdone s = .next { s with
      frameCounter := BitVec.ofNat 64 ((s.frameCounter.toNat + 1) % 2 ^ 64), pending := none
      status := { s.status with dbg := false, state := .await }
      trace := s.trace ++ [.hpiTransmitAns .ok, .dbgFall] }) ∧
    (transmitAnswer s = .err → exec .txdone s = .next { s with
      pending := none, status := { s.status with dbg := false, state := .await }
      trace := s.trace ++ [.hpiTransmitAns .err, .dbgFall] })

/-- An internal step outside the STATE that enables it is no step of the block; the model lets it change nothing
(log 9; R116, R189). -/
def Obligations.DisabledInternalStepsChangeNothing : Prop :=
  ∀ s : State, (s.status.state ≠ .await → exec .poll s = .next s) ∧
    (s.status.state ≠ .transmit → exec .txdone s = .next s)

/-- R190: with INTERVAL = 0 every POLL fires. -/
def Obligations.ZeroIntervalAlwaysFires : Prop :=
  ∀ s : State, s.status.state = .await → s.interval = 0#32 →
    ∃ t, exec .poll s = .next t ∧ t.status.state = .transmit ∧ t.lastTick = sampleCounter s

/-- R191: elapsed ticks are the true ticks across any wraparound, for every W the spec allows; one tick past 2^W − 1
gives 1. -/
def Obligations.ElapsedIsTheTrueTickCount : Prop :=
  ∀ w : Nat, 2 ≤ w → w ≤ 32 →
    (∀ c ticks : Nat, ticks < 2 ^ w →
      (elapsedTicks w (BitVec.ofNat 32 ((c + ticks) % 2 ^ w)) (BitVec.ofNat 32 (c % 2 ^ w))).toNat = ticks) ∧
    (elapsedTicks w 0#32 (BitVec.ofNat 32 (2 ^ w - 1))).toNat = 1

/-- The polling gap bound (R308): if samples come at most G ≤ 2^W − INTERVAL ticks apart, the first POLL at or past the
interval sees the true elapsed ticks and fires. -/
def Obligations.PollingGapBoundSuffices : Prop :=
  ∀ (s : State) (c before ticks gap : Nat), s.status.state = .await → s.args.wf →
    s.lastTick = BitVec.ofNat 32 (c % 2 ^ s.args.w) → before < s.interval.toNat → ticks ≤ before + gap →
    gap + s.interval.toNat ≤ 2 ^ s.args.w → s.interval.toNat ≤ ticks →
    sampleCounter s = BitVec.ofNat 32 ((c + ticks) % 2 ^ s.args.w) →
    ticks < 2 ^ s.args.w ∧ ∃ t, exec .poll s = .next t ∧ t.elapsed.toNat = ticks ∧ t.status.state = .transmit

/-- R177: a payload is the low n bytes of the counter, low byte first in LE, and reversed in BE. -/
def Obligations.PayloadCarriesTheLowBytes : Prop :=
  ∀ (c : BitVec 64) (n : Nat), n ≤ 8 →
    (payload .le c n).length = n ∧
    Nat.ofDigits 256 ((payload .le c n).map BitVec.toNat) = c.toNat % 2 ^ (8 * n) ∧
    payload .be c n = (payload .le c n).reverse

/-- With no host move left and INTERVAL = 0, the block by itself requests one frame and takes its answer every two
steps (R188, R190, R279). -/
def Obligations.BackToBackTransmission : Prop :=
  ∀ s : State, s.status.state = .await → s.interval = 0#32 → s.turns = [] →
    ∃ t u a, step s = .next t ∧ step t = .next u ∧ t.status.state = .transmit ∧ u.status.state = .await ∧
      u.trace = s.trace ++
        [.dbgRise, .hpiTransmitReq (frameFor s.frameCounter s), .hpiTransmitAns a, .dbgFall] ∧
      u.frameCounter = (if a = .ok then s.frameCounter + 1#64 else s.frameCounter) ∧ u.interval = 0#32 ∧ u.turns = []

/-! ## Whole-machine rules -/

/-- The invariants of 10_state.md section 7 and what follows from them hold after reset (the values the spec gives; the
arguments are log 5 and log 6). -/
def Obligations.ResetStateSatisfiesTheInvariants : Prop :=
  Inv State.reset ∧ FollowsProtocol State.reset ∧ CountsConfirmed State.reset ∧ FramesNumbered State.reset

/-- Every step keeps the invariants: R56, R57, the widths of the tick registers, the legality of BTC and what RESULT
says of it, and that a running schedule holds what START checked. -/
def Obligations.StepKeepsTheInvariants : Prop :=
  ∀ s t : State, Inv s → step s = .next t → Inv t

/-- Every step keeps the order of events: HpiInit, configure request and answer once between resets, and then strictly
one transmit at a time, DBG risen before its request and fallen after its answer (R88, R89, R186, R213). -/
def Obligations.EventTraceFollowsTheProtocol : Prop :=
  ∀ s t : State, FollowsProtocol s → step s = .next t → FollowsProtocol t

/-- R187: every step keeps FRAME_COUNTER equal to the number of confirmed transmissions since START, mod 2^64. -/
def Obligations.CounterCountsConfirmedTransmissions : Prop :=
  ∀ s t : State, CountsConfirmed s → step s = .next t → CountsConfirmed t

/-- R192: every step keeps every requested frame numbered by the transmissions confirmed before it. -/
def Obligations.FramesCarryTheConfirmedCount : Prop :=
  ∀ s t : State, CountsConfirmed s → FramesNumbered s → step s = .next t → FramesNumbered t

/-- The transitions of STATE are exactly those of R46: IDLE to AWAIT or HALTED by a START write alone, AWAIT to TRANSMIT
and back by the block's own steps, anything to IDLE by reset. -/
def Obligations.ControlStateTransitions : Prop :=
  ∀ s t : State, step s = .next t →
    t.status.state = s.status.state ∨
    (s.status.state = .idle ∧ (t.status.state = .await ∨ t.status.state = .halted) ∧
      ∃ d, nextTurn s = .host 0x140#9 0x0000_0002#32 d) ∨
    (s.status.state = .await ∧ t.status.state = .transmit ∧ ∃ d, nextTurn s = .block d) ∨
    (s.status.state = .transmit ∧ t.status.state = .await ∧ ∃ d, nextTurn s = .block d) ∨
    (t.status.state = .idle ∧ nextTurn s = .reset)

/-- R280: HALTED is permanent. No step but reset leaves it; registers other than WIGN keep their values, DBG stays 0, and
no HPI request is issued. -/
def Obligations.HaltedIsPermanent : Prop :=
  ∀ s t : State, s.status.state = .halted → s.status.dbg = false → step s = .next t → nextTurn s ≠ .reset →
    (∃ wign trace, t = { takeTurn s with
      status := { s.status with wign := wign }, trace := trace }) ∧
    t.status.state = .halted ∧ t.dbgPin = false ∧ ∃ es, t.trace = s.trace ++ es ∧ ∀ e ∈ es, e.isBus = true

/-- R55: outside IDLE no step but reset changes a configuration register. -/
def Obligations.ConfigurationIsFrozenOutsideIdle : Prop :=
  ∀ s t : State, s.status.state ≠ .idle → step s = .next t → nextTurn s ≠ .reset → SameConfig s t

/-- R49: a step sets WIGN exactly when it is a host write to CTRL or a configuration register outside IDLE, and only
reset clears it. -/
def Obligations.WriteIgnoredFlagIsSticky : Prop :=
  ∀ s t : State, step s = .next t →
    (nextTurn s = .reset → t.status.wign = false) ∧
    (nextTurn s ≠ .reset → (t.status.wign = true ↔ s.status.wign = true ∨
      (s.status.state ≠ .idle ∧ ∃ hdr data d, nextTurn s = .host hdr data d ∧ hdr ∈ writeHeaders)))

/-- FAULT is set exactly when a command in IDLE writes RESULT with BAD_ARG or BAD_CMD, and only reset clears it (R50,
R266, R267). -/
def Obligations.FaultFlagIsSticky : Prop :=
  ∀ s t : State, step s = .next t →
    (nextTurn s = .reset → t.status.fault = false) ∧
    (nextTurn s ≠ .reset → (t.status.fault = true ↔ s.status.fault = true ∨
      (s.status.state = .idle ∧ (t.status.result = .badArg ∨ t.status.result = .badCmd) ∧
        ∃ cw d, nextTurn s = .host 0x140#9 cw d ∧ cw ≠ 0#32)))

/-- R181: a confirmed transmission adds 1 mod 2^64 to the frame counter, and that is the only change ever made to it but
START's clear and reset. -/
def Obligations.FrameCounterAdvancesOnConfirmationOnly : Prop :=
  ∀ s t : State, step s = .next t →
    (s.status.state = .transmit → (∃ d, nextTurn s = .block d) → transmitAnswer (takeTurn s) = .ok →
      t.frameCounter = s.frameCounter + 1#64) ∧
    (t.frameCounter = s.frameCounter ∨
    (t.frameCounter = s.frameCounter + 1#64 ∧ s.status.state = .transmit ∧ t.status.state = .await ∧
      transmitAnswer (takeTurn s) = .ok ∧ ∃ d, nextTurn s = .block d) ∨
    (t.frameCounter = 0#64 ∧ s.status.state = .idle ∧ t.status.state = .await) ∨
    (t.frameCounter = 0#64 ∧ nextTurn s = .reset))

/-- The access matrix (R58), row by row: which operations may change which registers. The frame of every operation. -/
def Obligations.AccessMatrixHolds : Prop :=
  ∀ (i : Instr) (s t : State), exec i s = .next t →
    (isConfigWrite i = false → SameConfig s t) ∧
    (commandOf i ∉ [some .solve, some .start] → t.btc = s.btc) ∧
    (commandOf i ≠ some .start → i ≠ .poll →
      t.lastTick = s.lastTick ∧ t.now = s.now ∧ t.elapsed = s.elapsed) ∧
    (commandOf i ≠ some .start → i ≠ .txdone → t.frameCounter = s.frameCounter) ∧
    (commandOf i ≠ some .start → i ≠ .poll → i ≠ .txdone → t.status.state = s.status.state) ∧
    (commandOf i ∉ [some .solve, some .start, some .reserved] →
      t.status.result = s.status.result ∧ t.status.fault = s.status.fault) ∧
    (i ≠ .poll → i ≠ .txdone → t.status.dbg = s.status.dbg ∧ t.pending = s.pending) ∧
    (isConfigWrite i = false → commandOf i = none → t.status.wign = s.status.wign) ∧
    t.args = s.args ∧ t.ports = s.ports ∧ t.turns = s.turns

/-- Nothing in the block reads WIGN, FAULT or DBG: two states that differ only in them take the same step, and all they
emit is equal but for the value a read of STATUS returns (R54). -/
def Obligations.FlagsAreNeverRead : Prop :=
  ∀ s t s' t' : State, SameButFlags s t → step s = .next s' → step t = .next t' →
    SameButFlags s' t' ∧ ∃ es fs : List Event, s'.trace = s.trace ++ es ∧ t'.trace = t.trace ++ fs ∧ es.length = fs.length ∧
      ∀ (k : Nat) (e f : Event), es[k]? = some e → fs[k]? = some f →
        e = f ∨ ∃ v v', e = .busResp 0x104#9 v .okay ∧ f = .busResp 0x104#9 v' .okay

/-- In a running block BTC is valid and its fields give the clock exactly for the bitrate the registers hold, within 25
quanta (R39, R57). -/
def Obligations.RunningBtcDescribesTheClock : Prop :=
  ∀ s : State, Inv s → s.running →
    btcValid s.btc = true ∧ 1 + btcPs1 s.btc + btcPs2 s.btc ≤ 25 ∧
    s.clkHz.toNat = btcPrescaler s.btc * (1 + btcPs1 s.btc + btcPs2 s.btc) * s.bitrateHz.toNat
end

