-- ==== Sys2Proof/Laws/State.lean ====
section
/-! SUPPORT. One lemma per field per named update of State, each true by rfl, so that no proof unfolds a record update. -/

namespace Sys2Proof.Machine

variable (s : State)


/-! `setState` -/

@[simp] theorem setState_state (b : BlockState) : (s.setState b).status.state = b := rfl
@[simp] theorem setState_result (b : BlockState) : (s.setState b).status.result = s.status.result := rfl
@[simp] theorem setState_dbg (b : BlockState) : (s.setState b).status.dbg = s.status.dbg := rfl
@[simp] theorem setState_wign (b : BlockState) : (s.setState b).status.wign = s.status.wign := rfl
@[simp] theorem setState_fault (b : BlockState) : (s.setState b).status.fault = s.status.fault := rfl
@[simp] theorem setState_clkHz (b : BlockState) : (s.setState b).clkHz = s.clkHz := rfl
@[simp] theorem setState_bitrateHz (b : BlockState) : (s.setState b).bitrateHz = s.bitrateHz := rfl
@[simp] theorem setState_spPct (b : BlockState) : (s.setState b).spPct = s.spPct := rfl
@[simp] theorem setState_interval (b : BlockState) : (s.setState b).interval = s.interval := rfl
@[simp] theorem setState_frameId (b : BlockState) : (s.setState b).frameId = s.frameId := rfl
@[simp] theorem setState_frameDlc (b : BlockState) : (s.setState b).frameDlc = s.frameDlc := rfl
@[simp] theorem setState_btc (b : BlockState) : (s.setState b).btc = s.btc := rfl
@[simp] theorem setState_lastTick (b : BlockState) : (s.setState b).lastTick = s.lastTick := rfl
@[simp] theorem setState_now (b : BlockState) : (s.setState b).now = s.now := rfl
@[simp] theorem setState_elapsed (b : BlockState) : (s.setState b).elapsed = s.elapsed := rfl
@[simp] theorem setState_frameCounter (b : BlockState) : (s.setState b).frameCounter = s.frameCounter := rfl
@[simp] theorem setState_pending (b : BlockState) : (s.setState b).pending = s.pending := rfl
@[simp] theorem setState_trace (b : BlockState) : (s.setState b).trace = s.trace := rfl
@[simp] theorem setState_args (b : BlockState) : (s.setState b).args = s.args := rfl
@[simp] theorem setState_ports (b : BlockState) : (s.setState b).ports = s.ports := rfl
@[simp] theorem setState_turns (b : BlockState) : (s.setState b).turns = s.turns := rfl

/-! `setDbg` -/

@[simp] theorem setDbg_state (d : Bool) : (s.setDbg d).status.state = s.status.state := rfl
@[simp] theorem setDbg_result (d : Bool) : (s.setDbg d).status.result = s.status.result := rfl
@[simp] theorem setDbg_dbg (d : Bool) : (s.setDbg d).status.dbg = d := rfl
@[simp] theorem setDbg_wign (d : Bool) : (s.setDbg d).status.wign = s.status.wign := rfl
@[simp] theorem setDbg_fault (d : Bool) : (s.setDbg d).status.fault = s.status.fault := rfl
@[simp] theorem setDbg_clkHz (d : Bool) : (s.setDbg d).clkHz = s.clkHz := rfl
@[simp] theorem setDbg_bitrateHz (d : Bool) : (s.setDbg d).bitrateHz = s.bitrateHz := rfl
@[simp] theorem setDbg_spPct (d : Bool) : (s.setDbg d).spPct = s.spPct := rfl
@[simp] theorem setDbg_interval (d : Bool) : (s.setDbg d).interval = s.interval := rfl
@[simp] theorem setDbg_frameId (d : Bool) : (s.setDbg d).frameId = s.frameId := rfl
@[simp] theorem setDbg_frameDlc (d : Bool) : (s.setDbg d).frameDlc = s.frameDlc := rfl
@[simp] theorem setDbg_btc (d : Bool) : (s.setDbg d).btc = s.btc := rfl
@[simp] theorem setDbg_lastTick (d : Bool) : (s.setDbg d).lastTick = s.lastTick := rfl
@[simp] theorem setDbg_now (d : Bool) : (s.setDbg d).now = s.now := rfl
@[simp] theorem setDbg_elapsed (d : Bool) : (s.setDbg d).elapsed = s.elapsed := rfl
@[simp] theorem setDbg_frameCounter (d : Bool) : (s.setDbg d).frameCounter = s.frameCounter := rfl
@[simp] theorem setDbg_pending (d : Bool) : (s.setDbg d).pending = s.pending := rfl
@[simp] theorem setDbg_trace (d : Bool) : (s.setDbg d).trace = s.trace := rfl
@[simp] theorem setDbg_args (d : Bool) : (s.setDbg d).args = s.args := rfl
@[simp] theorem setDbg_ports (d : Bool) : (s.setDbg d).ports = s.ports := rfl
@[simp] theorem setDbg_turns (d : Bool) : (s.setDbg d).turns = s.turns := rfl

/-! `setWign` -/

@[simp] theorem setWign_state : (s.setWign).status.state = s.status.state := rfl
@[simp] theorem setWign_result : (s.setWign).status.result = s.status.result := rfl
@[simp] theorem setWign_dbg : (s.setWign).status.dbg = s.status.dbg := rfl
@[simp] theorem setWign_wign : (s.setWign).status.wign = true := rfl
@[simp] theorem setWign_fault : (s.setWign).status.fault = s.status.fault := rfl
@[simp] theorem setWign_clkHz : (s.setWign).clkHz = s.clkHz := rfl
@[simp] theorem setWign_bitrateHz : (s.setWign).bitrateHz = s.bitrateHz := rfl
@[simp] theorem setWign_spPct : (s.setWign).spPct = s.spPct := rfl
@[simp] theorem setWign_interval : (s.setWign).interval = s.interval := rfl
@[simp] theorem setWign_frameId : (s.setWign).frameId = s.frameId := rfl
@[simp] theorem setWign_frameDlc : (s.setWign).frameDlc = s.frameDlc := rfl
@[simp] theorem setWign_btc : (s.setWign).btc = s.btc := rfl
@[simp] theorem setWign_lastTick : (s.setWign).lastTick = s.lastTick := rfl
@[simp] theorem setWign_now : (s.setWign).now = s.now := rfl
@[simp] theorem setWign_elapsed : (s.setWign).elapsed = s.elapsed := rfl
@[simp] theorem setWign_frameCounter : (s.setWign).frameCounter = s.frameCounter := rfl
@[simp] theorem setWign_pending : (s.setWign).pending = s.pending := rfl
@[simp] theorem setWign_trace : (s.setWign).trace = s.trace := rfl
@[simp] theorem setWign_args : (s.setWign).args = s.args := rfl
@[simp] theorem setWign_ports : (s.setWign).ports = s.ports := rfl
@[simp] theorem setWign_turns : (s.setWign).turns = s.turns := rfl

/-! `raiseResult` -/

@[simp] theorem raiseResult_state (c : ResultCode) : (s.raiseResult c).status.state = s.status.state := rfl
@[simp] theorem raiseResult_result (c : ResultCode) : (s.raiseResult c).status.result = c := rfl
@[simp] theorem raiseResult_dbg (c : ResultCode) : (s.raiseResult c).status.dbg = s.status.dbg := rfl
@[simp] theorem raiseResult_wign (c : ResultCode) : (s.raiseResult c).status.wign = s.status.wign := rfl
@[simp] theorem raiseResult_fault (c : ResultCode) : (s.raiseResult c).status.fault = (s.status.fault || c.isHostError) := rfl
@[simp] theorem raiseResult_clkHz (c : ResultCode) : (s.raiseResult c).clkHz = s.clkHz := rfl
@[simp] theorem raiseResult_bitrateHz (c : ResultCode) : (s.raiseResult c).bitrateHz = s.bitrateHz := rfl
@[simp] theorem raiseResult_spPct (c : ResultCode) : (s.raiseResult c).spPct = s.spPct := rfl
@[simp] theorem raiseResult_interval (c : ResultCode) : (s.raiseResult c).interval = s.interval := rfl
@[simp] theorem raiseResult_frameId (c : ResultCode) : (s.raiseResult c).frameId = s.frameId := rfl
@[simp] theorem raiseResult_frameDlc (c : ResultCode) : (s.raiseResult c).frameDlc = s.frameDlc := rfl
@[simp] theorem raiseResult_btc (c : ResultCode) : (s.raiseResult c).btc = s.btc := rfl
@[simp] theorem raiseResult_lastTick (c : ResultCode) : (s.raiseResult c).lastTick = s.lastTick := rfl
@[simp] theorem raiseResult_now (c : ResultCode) : (s.raiseResult c).now = s.now := rfl
@[simp] theorem raiseResult_elapsed (c : ResultCode) : (s.raiseResult c).elapsed = s.elapsed := rfl
@[simp] theorem raiseResult_frameCounter (c : ResultCode) : (s.raiseResult c).frameCounter = s.frameCounter := rfl
@[simp] theorem raiseResult_pending (c : ResultCode) : (s.raiseResult c).pending = s.pending := rfl
@[simp] theorem raiseResult_trace (c : ResultCode) : (s.raiseResult c).trace = s.trace := rfl
@[simp] theorem raiseResult_args (c : ResultCode) : (s.raiseResult c).args = s.args := rfl
@[simp] theorem raiseResult_ports (c : ResultCode) : (s.raiseResult c).ports = s.ports := rfl
@[simp] theorem raiseResult_turns (c : ResultCode) : (s.raiseResult c).turns = s.turns := rfl

/-! `emit` -/

@[simp] theorem emit_status (e : Event) : (s.emit e).status = s.status := rfl
@[simp] theorem emit_clkHz (e : Event) : (s.emit e).clkHz = s.clkHz := rfl
@[simp] theorem emit_bitrateHz (e : Event) : (s.emit e).bitrateHz = s.bitrateHz := rfl
@[simp] theorem emit_spPct (e : Event) : (s.emit e).spPct = s.spPct := rfl
@[simp] theorem emit_interval (e : Event) : (s.emit e).interval = s.interval := rfl
@[simp] theorem emit_frameId (e : Event) : (s.emit e).frameId = s.frameId := rfl
@[simp] theorem emit_frameDlc (e : Event) : (s.emit e).frameDlc = s.frameDlc := rfl
@[simp] theorem emit_btc (e : Event) : (s.emit e).btc = s.btc := rfl
@[simp] theorem emit_lastTick (e : Event) : (s.emit e).lastTick = s.lastTick := rfl
@[simp] theorem emit_now (e : Event) : (s.emit e).now = s.now := rfl
@[simp] theorem emit_elapsed (e : Event) : (s.emit e).elapsed = s.elapsed := rfl
@[simp] theorem emit_frameCounter (e : Event) : (s.emit e).frameCounter = s.frameCounter := rfl
@[simp] theorem emit_pending (e : Event) : (s.emit e).pending = s.pending := rfl
@[simp] theorem emit_trace (e : Event) : (s.emit e).trace = s.trace ++ [e] := rfl
@[simp] theorem emit_args (e : Event) : (s.emit e).args = s.args := rfl
@[simp] theorem emit_ports (e : Event) : (s.emit e).ports = s.ports := rfl
@[simp] theorem emit_turns (e : Event) : (s.emit e).turns = s.turns := rfl

/-! `respond` -/

@[simp] theorem respond_status (h : Header) (v : Word) : (s.respond h v).status = s.status := rfl
@[simp] theorem respond_clkHz (h : Header) (v : Word) : (s.respond h v).clkHz = s.clkHz := rfl
@[simp] theorem respond_bitrateHz (h : Header) (v : Word) : (s.respond h v).bitrateHz = s.bitrateHz := rfl
@[simp] theorem respond_spPct (h : Header) (v : Word) : (s.respond h v).spPct = s.spPct := rfl
@[simp] theorem respond_interval (h : Header) (v : Word) : (s.respond h v).interval = s.interval := rfl
@[simp] theorem respond_frameId (h : Header) (v : Word) : (s.respond h v).frameId = s.frameId := rfl
@[simp] theorem respond_frameDlc (h : Header) (v : Word) : (s.respond h v).frameDlc = s.frameDlc := rfl
@[simp] theorem respond_btc (h : Header) (v : Word) : (s.respond h v).btc = s.btc := rfl
@[simp] theorem respond_lastTick (h : Header) (v : Word) : (s.respond h v).lastTick = s.lastTick := rfl
@[simp] theorem respond_now (h : Header) (v : Word) : (s.respond h v).now = s.now := rfl
@[simp] theorem respond_elapsed (h : Header) (v : Word) : (s.respond h v).elapsed = s.elapsed := rfl
@[simp] theorem respond_frameCounter (h : Header) (v : Word) : (s.respond h v).frameCounter = s.frameCounter := rfl
@[simp] theorem respond_pending (h : Header) (v : Word) : (s.respond h v).pending = s.pending := rfl
@[simp] theorem respond_trace (h : Header) (v : Word) : (s.respond h v).trace = s.trace ++ [.busResp h v .okay] := rfl
@[simp] theorem respond_args (h : Header) (v : Word) : (s.respond h v).args = s.args := rfl
@[simp] theorem respond_ports (h : Header) (v : Word) : (s.respond h v).ports = s.ports := rfl
@[simp] theorem respond_turns (h : Header) (v : Word) : (s.respond h v).turns = s.turns := rfl

/-! `busError` -/

@[simp] theorem busError_status (h : Header) : (busError h s).status = s.status := rfl
@[simp] theorem busError_clkHz (h : Header) : (busError h s).clkHz = s.clkHz := rfl
@[simp] theorem busError_bitrateHz (h : Header) : (busError h s).bitrateHz = s.bitrateHz := rfl
@[simp] theorem busError_spPct (h : Header) : (busError h s).spPct = s.spPct := rfl
@[simp] theorem busError_interval (h : Header) : (busError h s).interval = s.interval := rfl
@[simp] theorem busError_frameId (h : Header) : (busError h s).frameId = s.frameId := rfl
@[simp] theorem busError_frameDlc (h : Header) : (busError h s).frameDlc = s.frameDlc := rfl
@[simp] theorem busError_btc (h : Header) : (busError h s).btc = s.btc := rfl
@[simp] theorem busError_lastTick (h : Header) : (busError h s).lastTick = s.lastTick := rfl
@[simp] theorem busError_now (h : Header) : (busError h s).now = s.now := rfl
@[simp] theorem busError_elapsed (h : Header) : (busError h s).elapsed = s.elapsed := rfl
@[simp] theorem busError_frameCounter (h : Header) : (busError h s).frameCounter = s.frameCounter := rfl
@[simp] theorem busError_pending (h : Header) : (busError h s).pending = s.pending := rfl
@[simp] theorem busError_trace (h : Header) : (busError h s).trace = s.trace ++ [.busResp h 0#32 .slverr] := rfl
@[simp] theorem busError_args (h : Header) : (busError h s).args = s.args := rfl
@[simp] theorem busError_ports (h : Header) : (busError h s).ports = s.ports := rfl
@[simp] theorem busError_turns (h : Header) : (busError h s).turns = s.turns := rfl

/-! `readReg` -/

@[simp] theorem readReg_status (r : ReadReg) : (readReg r s).status = s.status := rfl
@[simp] theorem readReg_clkHz (r : ReadReg) : (readReg r s).clkHz = s.clkHz := rfl
@[simp] theorem readReg_bitrateHz (r : ReadReg) : (readReg r s).bitrateHz = s.bitrateHz := rfl
@[simp] theorem readReg_spPct (r : ReadReg) : (readReg r s).spPct = s.spPct := rfl
@[simp] theorem readReg_interval (r : ReadReg) : (readReg r s).interval = s.interval := rfl
@[simp] theorem readReg_frameId (r : ReadReg) : (readReg r s).frameId = s.frameId := rfl
@[simp] theorem readReg_frameDlc (r : ReadReg) : (readReg r s).frameDlc = s.frameDlc := rfl
@[simp] theorem readReg_btc (r : ReadReg) : (readReg r s).btc = s.btc := rfl
@[simp] theorem readReg_lastTick (r : ReadReg) : (readReg r s).lastTick = s.lastTick := rfl
@[simp] theorem readReg_now (r : ReadReg) : (readReg r s).now = s.now := rfl
@[simp] theorem readReg_elapsed (r : ReadReg) : (readReg r s).elapsed = s.elapsed := rfl
@[simp] theorem readReg_frameCounter (r : ReadReg) : (readReg r s).frameCounter = s.frameCounter := rfl
@[simp] theorem readReg_pending (r : ReadReg) : (readReg r s).pending = s.pending := rfl
@[simp] theorem readReg_trace (r : ReadReg) : (readReg r s).trace = s.trace ++ [.busResp (readHeader r.reg) (readVal r s) .okay] := rfl
@[simp] theorem readReg_args (r : ReadReg) : (readReg r s).args = s.args := rfl
@[simp] theorem readReg_ports (r : ReadReg) : (readReg r s).ports = s.ports := rfl
@[simp] theorem readReg_turns (r : ReadReg) : (readReg r s).turns = s.turns := rfl

/-! `halt` -/

@[simp] theorem halt_state (c : ResultCode) : (s.halt c).status.state = .halted := rfl
@[simp] theorem halt_result (c : ResultCode) : (s.halt c).status.result = c := rfl
@[simp] theorem halt_dbg (c : ResultCode) : (s.halt c).status.dbg = s.status.dbg := rfl
@[simp] theorem halt_wign (c : ResultCode) : (s.halt c).status.wign = s.status.wign := rfl
@[simp] theorem halt_fault (c : ResultCode) : (s.halt c).status.fault = (s.status.fault || c.isHostError) := rfl
@[simp] theorem halt_clkHz (c : ResultCode) : (s.halt c).clkHz = s.clkHz := rfl
@[simp] theorem halt_bitrateHz (c : ResultCode) : (s.halt c).bitrateHz = s.bitrateHz := rfl
@[simp] theorem halt_spPct (c : ResultCode) : (s.halt c).spPct = s.spPct := rfl
@[simp] theorem halt_interval (c : ResultCode) : (s.halt c).interval = s.interval := rfl
@[simp] theorem halt_frameId (c : ResultCode) : (s.halt c).frameId = s.frameId := rfl
@[simp] theorem halt_frameDlc (c : ResultCode) : (s.halt c).frameDlc = s.frameDlc := rfl
@[simp] theorem halt_btc (c : ResultCode) : (s.halt c).btc = s.btc := rfl
@[simp] theorem halt_lastTick (c : ResultCode) : (s.halt c).lastTick = s.lastTick := rfl
@[simp] theorem halt_now (c : ResultCode) : (s.halt c).now = s.now := rfl
@[simp] theorem halt_elapsed (c : ResultCode) : (s.halt c).elapsed = s.elapsed := rfl
@[simp] theorem halt_frameCounter (c : ResultCode) : (s.halt c).frameCounter = s.frameCounter := rfl
@[simp] theorem halt_pending (c : ResultCode) : (s.halt c).pending = s.pending := rfl
@[simp] theorem halt_trace (c : ResultCode) : (s.halt c).trace = s.trace := rfl
@[simp] theorem halt_args (c : ResultCode) : (s.halt c).args = s.args := rfl
@[simp] theorem halt_ports (c : ResultCode) : (s.halt c).ports = s.ports := rfl
@[simp] theorem halt_turns (c : ResultCode) : (s.halt c).turns = s.turns := rfl

/-! `rejectArg` -/

@[simp] theorem rejectArg_state : (rejectArg s).status.state = s.status.state := rfl
@[simp] theorem rejectArg_result : (rejectArg s).status.result = .badArg := rfl
@[simp] theorem rejectArg_dbg : (rejectArg s).status.dbg = s.status.dbg := rfl
@[simp] theorem rejectArg_wign : (rejectArg s).status.wign = s.status.wign := rfl
@[simp] theorem rejectArg_fault : (rejectArg s).status.fault = (s.status.fault || ResultCode.isHostError .badArg) := rfl
@[simp] theorem rejectArg_clkHz : (rejectArg s).clkHz = s.clkHz := rfl
@[simp] theorem rejectArg_bitrateHz : (rejectArg s).bitrateHz = s.bitrateHz := rfl
@[simp] theorem rejectArg_spPct : (rejectArg s).spPct = s.spPct := rfl
@[simp] theorem rejectArg_interval : (rejectArg s).interval = s.interval := rfl
@[simp] theorem rejectArg_frameId : (rejectArg s).frameId = s.frameId := rfl
@[simp] theorem rejectArg_frameDlc : (rejectArg s).frameDlc = s.frameDlc := rfl
@[simp] theorem rejectArg_btc : (rejectArg s).btc = 0#32 := rfl
@[simp] theorem rejectArg_lastTick : (rejectArg s).lastTick = s.lastTick := rfl
@[simp] theorem rejectArg_now : (rejectArg s).now = s.now := rfl
@[simp] theorem rejectArg_elapsed : (rejectArg s).elapsed = s.elapsed := rfl
@[simp] theorem rejectArg_frameCounter : (rejectArg s).frameCounter = s.frameCounter := rfl
@[simp] theorem rejectArg_pending : (rejectArg s).pending = s.pending := rfl
@[simp] theorem rejectArg_trace : (rejectArg s).trace = s.trace := rfl
@[simp] theorem rejectArg_args : (rejectArg s).args = s.args := rfl
@[simp] theorem rejectArg_ports : (rejectArg s).ports = s.ports := rfl
@[simp] theorem rejectArg_turns : (rejectArg s).turns = s.turns := rfl

/-! `reservedCmd` -/

@[simp] theorem reservedCmd_state : (reservedCmd s).status.state = s.status.state := rfl
@[simp] theorem reservedCmd_result : (reservedCmd s).status.result = .badCmd := rfl
@[simp] theorem reservedCmd_dbg : (reservedCmd s).status.dbg = s.status.dbg := rfl
@[simp] theorem reservedCmd_wign : (reservedCmd s).status.wign = s.status.wign := rfl
@[simp] theorem reservedCmd_fault : (reservedCmd s).status.fault = (s.status.fault || ResultCode.isHostError .badCmd) := rfl
@[simp] theorem reservedCmd_clkHz : (reservedCmd s).clkHz = s.clkHz := rfl
@[simp] theorem reservedCmd_bitrateHz : (reservedCmd s).bitrateHz = s.bitrateHz := rfl
@[simp] theorem reservedCmd_spPct : (reservedCmd s).spPct = s.spPct := rfl
@[simp] theorem reservedCmd_interval : (reservedCmd s).interval = s.interval := rfl
@[simp] theorem reservedCmd_frameId : (reservedCmd s).frameId = s.frameId := rfl
@[simp] theorem reservedCmd_frameDlc : (reservedCmd s).frameDlc = s.frameDlc := rfl
@[simp] theorem reservedCmd_btc : (reservedCmd s).btc = s.btc := rfl
@[simp] theorem reservedCmd_lastTick : (reservedCmd s).lastTick = s.lastTick := rfl
@[simp] theorem reservedCmd_now : (reservedCmd s).now = s.now := rfl
@[simp] theorem reservedCmd_elapsed : (reservedCmd s).elapsed = s.elapsed := rfl
@[simp] theorem reservedCmd_frameCounter : (reservedCmd s).frameCounter = s.frameCounter := rfl
@[simp] theorem reservedCmd_pending : (reservedCmd s).pending = s.pending := rfl
@[simp] theorem reservedCmd_trace : (reservedCmd s).trace = s.trace := rfl
@[simp] theorem reservedCmd_args : (reservedCmd s).args = s.args := rfl
@[simp] theorem reservedCmd_ports : (reservedCmd s).ports = s.ports := rfl
@[simp] theorem reservedCmd_turns : (reservedCmd s).turns = s.turns := rfl

/-! `solveCmd` -/

@[simp] theorem solveCmd_state : (solveCmd s).status.state = s.status.state := rfl
@[simp] theorem solveCmd_result : (solveCmd s).status.result = solveCode (solveFn s.clkHz s.bitrateHz s.spPct) := rfl
@[simp] theorem solveCmd_dbg : (solveCmd s).status.dbg = s.status.dbg := rfl
@[simp] theorem solveCmd_wign : (solveCmd s).status.wign = s.status.wign := rfl
@[simp] theorem solveCmd_fault : (solveCmd s).status.fault = (s.status.fault || (solveCode (solveFn s.clkHz s.bitrateHz s.spPct)).isHostError) := rfl
@[simp] theorem solveCmd_clkHz : (solveCmd s).clkHz = s.clkHz := rfl
@[simp] theorem solveCmd_bitrateHz : (solveCmd s).bitrateHz = s.bitrateHz := rfl
@[simp] theorem solveCmd_spPct : (solveCmd s).spPct = s.spPct := rfl
@[simp] theorem solveCmd_interval : (solveCmd s).interval = s.interval := rfl
@[simp] theorem solveCmd_frameId : (solveCmd s).frameId = s.frameId := rfl
@[simp] theorem solveCmd_frameDlc : (solveCmd s).frameDlc = s.frameDlc := rfl
@[simp] theorem solveCmd_btc : (solveCmd s).btc = encBtc (solveFn s.clkHz s.bitrateHz s.spPct) := rfl
@[simp] theorem solveCmd_lastTick : (solveCmd s).lastTick = s.lastTick := rfl
@[simp] theorem solveCmd_now : (solveCmd s).now = s.now := rfl
@[simp] theorem solveCmd_elapsed : (solveCmd s).elapsed = s.elapsed := rfl
@[simp] theorem solveCmd_frameCounter : (solveCmd s).frameCounter = s.frameCounter := rfl
@[simp] theorem solveCmd_pending : (solveCmd s).pending = s.pending := rfl
@[simp] theorem solveCmd_trace : (solveCmd s).trace = s.trace := rfl
@[simp] theorem solveCmd_args : (solveCmd s).args = s.args := rfl
@[simp] theorem solveCmd_ports : (solveCmd s).ports = s.ports := rfl
@[simp] theorem solveCmd_turns : (solveCmd s).turns = s.turns := rfl

/-! `startSchedule` -/

@[simp] theorem startSchedule_state : (startSchedule s).status.state = .await := rfl
@[simp] theorem startSchedule_result : (startSchedule s).status.result = .ok := rfl
@[simp] theorem startSchedule_dbg : (startSchedule s).status.dbg = s.status.dbg := rfl
@[simp] theorem startSchedule_wign : (startSchedule s).status.wign = s.status.wign := rfl
@[simp] theorem startSchedule_fault : (startSchedule s).status.fault = (s.status.fault || ResultCode.isHostError .ok) := rfl
@[simp] theorem startSchedule_clkHz : (startSchedule s).clkHz = s.clkHz := rfl
@[simp] theorem startSchedule_bitrateHz : (startSchedule s).bitrateHz = s.bitrateHz := rfl
@[simp] theorem startSchedule_spPct : (startSchedule s).spPct = s.spPct := rfl
@[simp] theorem startSchedule_interval : (startSchedule s).interval = s.interval := rfl
@[simp] theorem startSchedule_frameId : (startSchedule s).frameId = s.frameId := rfl
@[simp] theorem startSchedule_frameDlc : (startSchedule s).frameDlc = s.frameDlc := rfl
@[simp] theorem startSchedule_btc : (startSchedule s).btc = s.btc := rfl
@[simp] theorem startSchedule_lastTick : (startSchedule s).lastTick = sampleCounter s := rfl
@[simp] theorem startSchedule_now : (startSchedule s).now = sampleCounter s := rfl
@[simp] theorem startSchedule_elapsed : (startSchedule s).elapsed = 0#32 := rfl
@[simp] theorem startSchedule_frameCounter : (startSchedule s).frameCounter = 0#64 := rfl
@[simp] theorem startSchedule_pending : (startSchedule s).pending = s.pending := rfl
@[simp] theorem startSchedule_trace : (startSchedule s).trace = s.trace := rfl
@[simp] theorem startSchedule_args : (startSchedule s).args = s.args := rfl
@[simp] theorem startSchedule_ports : (startSchedule s).ports = s.ports := rfl
@[simp] theorem startSchedule_turns : (startSchedule s).turns = s.turns := rfl

/-! `pollSample` -/

@[simp] theorem pollSample_status : (pollSample s).status = s.status := rfl
@[simp] theorem pollSample_clkHz : (pollSample s).clkHz = s.clkHz := rfl
@[simp] theorem pollSample_bitrateHz : (pollSample s).bitrateHz = s.bitrateHz := rfl
@[simp] theorem pollSample_spPct : (pollSample s).spPct = s.spPct := rfl
@[simp] theorem pollSample_interval : (pollSample s).interval = s.interval := rfl
@[simp] theorem pollSample_frameId : (pollSample s).frameId = s.frameId := rfl
@[simp] theorem pollSample_frameDlc : (pollSample s).frameDlc = s.frameDlc := rfl
@[simp] theorem pollSample_btc : (pollSample s).btc = s.btc := rfl
@[simp] theorem pollSample_lastTick : (pollSample s).lastTick = s.lastTick := rfl
@[simp] theorem pollSample_now : (pollSample s).now = sampleCounter s := rfl
@[simp] theorem pollSample_elapsed : (pollSample s).elapsed = elapsedTicks s.args.w (sampleCounter s) s.lastTick := rfl
@[simp] theorem pollSample_frameCounter : (pollSample s).frameCounter = s.frameCounter := rfl
@[simp] theorem pollSample_pending : (pollSample s).pending = s.pending := rfl
@[simp] theorem pollSample_trace : (pollSample s).trace = s.trace := rfl
@[simp] theorem pollSample_args : (pollSample s).args = s.args := rfl
@[simp] theorem pollSample_ports : (pollSample s).ports = s.ports := rfl
@[simp] theorem pollSample_turns : (pollSample s).turns = s.turns := rfl

/-! `pollFire` -/

@[simp] theorem pollFire_state : (pollFire s).status.state = .transmit := rfl
@[simp] theorem pollFire_result : (pollFire s).status.result = s.status.result := rfl
@[simp] theorem pollFire_dbg : (pollFire s).status.dbg = true := rfl
@[simp] theorem pollFire_wign : (pollFire s).status.wign = s.status.wign := rfl
@[simp] theorem pollFire_fault : (pollFire s).status.fault = s.status.fault := rfl
@[simp] theorem pollFire_clkHz : (pollFire s).clkHz = s.clkHz := rfl
@[simp] theorem pollFire_bitrateHz : (pollFire s).bitrateHz = s.bitrateHz := rfl
@[simp] theorem pollFire_spPct : (pollFire s).spPct = s.spPct := rfl
@[simp] theorem pollFire_interval : (pollFire s).interval = s.interval := rfl
@[simp] theorem pollFire_frameId : (pollFire s).frameId = s.frameId := rfl
@[simp] theorem pollFire_frameDlc : (pollFire s).frameDlc = s.frameDlc := rfl
@[simp] theorem pollFire_btc : (pollFire s).btc = s.btc := rfl
@[simp] theorem pollFire_lastTick : (pollFire s).lastTick = s.now := rfl
@[simp] theorem pollFire_now : (pollFire s).now = s.now := rfl
@[simp] theorem pollFire_elapsed : (pollFire s).elapsed = s.elapsed := rfl
@[simp] theorem pollFire_frameCounter : (pollFire s).frameCounter = s.frameCounter := rfl
@[simp] theorem pollFire_pending : (pollFire s).pending = some (frameFor s.frameCounter s) := rfl
@[simp] theorem pollFire_trace : (pollFire s).trace = s.trace ++ [.dbgRise] ++ [.hpiTransmitReq (frameFor s.frameCounter s)] := rfl
@[simp] theorem pollFire_args : (pollFire s).args = s.args := rfl
@[simp] theorem pollFire_ports : (pollFire s).ports = s.ports := rfl
@[simp] theorem pollFire_turns : (pollFire s).turns = s.turns := rfl

/-! `txdoneEffect` -/

@[simp] theorem txdoneEffect_state : (txdoneEffect s).status.state = .await := rfl
@[simp] theorem txdoneEffect_result : (txdoneEffect s).status.result = s.status.result := rfl
@[simp] theorem txdoneEffect_dbg : (txdoneEffect s).status.dbg = false := rfl
@[simp] theorem txdoneEffect_wign : (txdoneEffect s).status.wign = s.status.wign := rfl
@[simp] theorem txdoneEffect_fault : (txdoneEffect s).status.fault = s.status.fault := rfl
@[simp] theorem txdoneEffect_clkHz : (txdoneEffect s).clkHz = s.clkHz := rfl
@[simp] theorem txdoneEffect_bitrateHz : (txdoneEffect s).bitrateHz = s.bitrateHz := rfl
@[simp] theorem txdoneEffect_spPct : (txdoneEffect s).spPct = s.spPct := rfl
@[simp] theorem txdoneEffect_interval : (txdoneEffect s).interval = s.interval := rfl
@[simp] theorem txdoneEffect_frameId : (txdoneEffect s).frameId = s.frameId := rfl
@[simp] theorem txdoneEffect_frameDlc : (txdoneEffect s).frameDlc = s.frameDlc := rfl
@[simp] theorem txdoneEffect_btc : (txdoneEffect s).btc = s.btc := rfl
@[simp] theorem txdoneEffect_lastTick : (txdoneEffect s).lastTick = s.lastTick := rfl
@[simp] theorem txdoneEffect_now : (txdoneEffect s).now = s.now := rfl
@[simp] theorem txdoneEffect_elapsed : (txdoneEffect s).elapsed = s.elapsed := rfl
@[simp] theorem txdoneEffect_frameCounter : (txdoneEffect s).frameCounter = countAnswer (transmitAnswer s) s.frameCounter := rfl
@[simp] theorem txdoneEffect_pending : (txdoneEffect s).pending = none := rfl
@[simp] theorem txdoneEffect_trace : (txdoneEffect s).trace = s.trace ++ [.hpiTransmitAns (transmitAnswer s)] ++ [.dbgFall] := rfl
@[simp] theorem txdoneEffect_args : (txdoneEffect s).args = s.args := rfl
@[simp] theorem txdoneEffect_ports : (txdoneEffect s).ports = s.ports := rfl
@[simp] theorem txdoneEffect_turns : (txdoneEffect s).turns = s.turns := rfl

/-! `resetBlock` -/

@[simp] theorem resetBlock_status : (resetBlock s).status = Status.reset := rfl
@[simp] theorem resetBlock_clkHz : (resetBlock s).clkHz = 0 := rfl
@[simp] theorem resetBlock_bitrateHz : (resetBlock s).bitrateHz = 0 := rfl
@[simp] theorem resetBlock_spPct : (resetBlock s).spPct = 0 := rfl
@[simp] theorem resetBlock_interval : (resetBlock s).interval = 0 := rfl
@[simp] theorem resetBlock_frameId : (resetBlock s).frameId = 0 := rfl
@[simp] theorem resetBlock_frameDlc : (resetBlock s).frameDlc = 0 := rfl
@[simp] theorem resetBlock_btc : (resetBlock s).btc = 0 := rfl
@[simp] theorem resetBlock_lastTick : (resetBlock s).lastTick = 0 := rfl
@[simp] theorem resetBlock_now : (resetBlock s).now = 0 := rfl
@[simp] theorem resetBlock_elapsed : (resetBlock s).elapsed = 0 := rfl
@[simp] theorem resetBlock_frameCounter : (resetBlock s).frameCounter = 0 := rfl
@[simp] theorem resetBlock_pending : (resetBlock s).pending = none := rfl
@[simp] theorem resetBlock_trace : (resetBlock s).trace = s.trace ++ [.reset] := rfl
@[simp] theorem resetBlock_args : (resetBlock s).args = s.args := rfl
@[simp] theorem resetBlock_ports : (resetBlock s).ports = s.ports := rfl
@[simp] theorem resetBlock_turns : (resetBlock s).turns = s.turns := rfl

/-! `takeTurn` -/

@[simp] theorem takeTurn_status : (takeTurn s).status = s.status := rfl
@[simp] theorem takeTurn_clkHz : (takeTurn s).clkHz = s.clkHz := rfl
@[simp] theorem takeTurn_bitrateHz : (takeTurn s).bitrateHz = s.bitrateHz := rfl
@[simp] theorem takeTurn_spPct : (takeTurn s).spPct = s.spPct := rfl
@[simp] theorem takeTurn_interval : (takeTurn s).interval = s.interval := rfl
@[simp] theorem takeTurn_frameId : (takeTurn s).frameId = s.frameId := rfl
@[simp] theorem takeTurn_frameDlc : (takeTurn s).frameDlc = s.frameDlc := rfl
@[simp] theorem takeTurn_btc : (takeTurn s).btc = s.btc := rfl
@[simp] theorem takeTurn_lastTick : (takeTurn s).lastTick = s.lastTick := rfl
@[simp] theorem takeTurn_now : (takeTurn s).now = s.now := rfl
@[simp] theorem takeTurn_elapsed : (takeTurn s).elapsed = s.elapsed := rfl
@[simp] theorem takeTurn_frameCounter : (takeTurn s).frameCounter = s.frameCounter := rfl
@[simp] theorem takeTurn_pending : (takeTurn s).pending = s.pending := rfl
@[simp] theorem takeTurn_trace : (takeTurn s).trace = s.trace := rfl
@[simp] theorem takeTurn_args : (takeTurn s).args = s.args := rfl
@[simp] theorem takeTurn_ports : (takeTurn s).ports = { counter := (nextTurn s).draws.counter, hpi := (nextTurn s).draws.hpi, index := s.ports.index + 1 } := rfl
@[simp] theorem takeTurn_turns : (takeTurn s).turns = s.turns.tail := rfl

/-! `setConfig`: the other fields of State, whichever register is stored. -/

@[simp] theorem setConfig_status (r : ConfigReg) (v : Word) : (setConfig r v s).status = s.status := by cases r <;> rfl
@[simp] theorem setConfig_btc (r : ConfigReg) (v : Word) : (setConfig r v s).btc = s.btc := by cases r <;> rfl
@[simp] theorem setConfig_lastTick (r : ConfigReg) (v : Word) : (setConfig r v s).lastTick = s.lastTick := by cases r <;> rfl
@[simp] theorem setConfig_now (r : ConfigReg) (v : Word) : (setConfig r v s).now = s.now := by cases r <;> rfl
@[simp] theorem setConfig_elapsed (r : ConfigReg) (v : Word) : (setConfig r v s).elapsed = s.elapsed := by cases r <;> rfl
@[simp] theorem setConfig_frameCounter (r : ConfigReg) (v : Word) : (setConfig r v s).frameCounter = s.frameCounter := by cases r <;> rfl
@[simp] theorem setConfig_pending (r : ConfigReg) (v : Word) : (setConfig r v s).pending = s.pending := by cases r <;> rfl
@[simp] theorem setConfig_trace (r : ConfigReg) (v : Word) : (setConfig r v s).trace = s.trace := by cases r <;> rfl
@[simp] theorem setConfig_args (r : ConfigReg) (v : Word) : (setConfig r v s).args = s.args := by cases r <;> rfl
@[simp] theorem setConfig_ports (r : ConfigReg) (v : Word) : (setConfig r v s).ports = s.ports := by cases r <;> rfl
@[simp] theorem setConfig_turns (r : ConfigReg) (v : Word) : (setConfig r v s).turns = s.turns := by cases r <;> rfl

/-! Draws do not see what a step emits or writes. -/

@[simp] theorem sampleCounter_emit (e : Event) : sampleCounter (s.emit e) = sampleCounter s := rfl
@[simp] theorem sampleCounter_respond (h : Header) (v : Word) : sampleCounter (s.respond h v) = sampleCounter s := rfl
@[simp] theorem configureAnswer_emit (e : Event) : configureAnswer (s.emit e) = configureAnswer s := rfl
@[simp] theorem configureAnswer_respond (h : Header) (v : Word) : configureAnswer (s.respond h v) = configureAnswer s := rfl
@[simp] theorem transmitAnswer_emit (e : Event) : transmitAnswer (s.emit e) = transmitAnswer s := rfl
@[simp] theorem transmitAnswer_respond (h : Header) (v : Word) : transmitAnswer (s.respond h v) = transmitAnswer s := rfl

end Sys2Proof.Machine
end

