-- ==== Sys2Proof/Laws/Ops.lean ====
section
/-! SUPPORT. What each shared operation can do, said once; provers cite these instead of unfolding. -/

namespace Sys2Proof.Machine

/-- A gated write in IDLE is its effect after the response. -/
theorem gatedWrite_idle {s : State} (h : s.status.state = .idle) (r : RegName) (f : State → State) :
    gatedWrite r f s = f (s.respond (writeHeader r) 0#32) := by
  simp [gatedWrite, h]

/-- A gated write anywhere else only responds and sets WIGN. -/
theorem gatedWrite_ignored {s : State} (h : s.status.state ≠ .idle) (r : RegName) (f : State → State) :
    gatedWrite r f s = (s.respond (writeHeader r) 0#32).setWign := by
  simp [gatedWrite, h]

/-- All a gated write can do. -/
theorem gatedWrite_cases (r : RegName) (f : State → State) (s : State) :
    (s.status.state = .idle ∧ gatedWrite r f s = f (s.respond (writeHeader r) 0#32)) ∨
    (s.status.state ≠ .idle ∧ gatedWrite r f s = (s.respond (writeHeader r) 0#32).setWign) := by
  by_cases h : s.status.state = .idle
  · exact .inl ⟨h, gatedWrite_idle h r f⟩
  · exact .inr ⟨h, gatedWrite_ignored h r f⟩

/-- An enabled internal step is its effect. -/
theorem whenEnabled_enabled {b : BlockState} {s : State} (h : s.status.state = b) (f : State → State) :
    whenEnabled b f s = f s := by
  simp [whenEnabled, h]

/-- A step that is not enabled changes nothing. -/
theorem whenEnabled_disabled {b : BlockState} {s : State} (h : s.status.state ≠ b) (f : State → State) :
    whenEnabled b f s = s := by
  simp [whenEnabled, h]

/-- A POLL either waits or fires. -/
theorem pollEffect_cases (s : State) :
    ((pollSample s).elapsed < s.interval ∧ pollEffect s = pollSample s) ∨
    (¬ (pollSample s).elapsed < s.interval ∧ pollEffect s = pollFire (pollSample s)) := by
  by_cases h : (pollSample s).elapsed < s.interval
  · exact .inl ⟨h, if_pos h⟩
  · exact .inr ⟨h, if_neg h⟩

/-- The configure handshake ends in one of two ways. -/
theorem startConfigure_cases (p ps1 ps2 : Nat) (s : State) :
    (configureAnswer s = .err ∧ startConfigure p ps1 ps2 s =
      ((s.emit (.hpiConfigureReq p ps1 ps2)).emit (.hpiConfigureAns .err)).halt .configRejected) ∨
    (configureAnswer s = .ok ∧ startConfigure p ps1 ps2 s =
      startSchedule ((s.emit (.hpiConfigureReq p ps1 ps2)).emit (.hpiConfigureAns .ok))) := by
  cases h : configureAnswer s
  · exact .inr ⟨rfl, by simp [startConfigure, h]⟩
  · exact .inl ⟨rfl, by simp [startConfigure, h]⟩

/-- START's argument checks passing excludes the solver's BadArg (R209). -/
theorem argsBad_of_startArgsBad {s : State} (h : startArgsBad s = false) :
    argsBad s.clkHz s.bitrateHz s.spPct = false := by
  simp only [startArgsBad, Bool.or_eq_false_iff] at h
  exact h.1.1.1

/-- The solver answers BadArg exactly when its argument check fails. -/
theorem solveFn_eq_badArg_iff (clk br sp : Word) : solveFn clk br sp = .badArg ↔ argsBad clk br sp = true := by
  unfold solveFn
  split
  · simp [*]
  · split
    · simp [*]
    · unfold splitAt
      split <;> simp [*]

/-- All START can do in IDLE, its unreachable arm gone. -/
theorem startCmd_cases (s : State) :
    (startArgsBad s = true ∧ startCmd s = rejectArg s) ∨
    (startArgsBad s = false ∧ solveFn s.clkHz s.bitrateHz s.spPct = .noSolution ∧
      startCmd s = State.halt .noSolution { s.emit .hpiInit with btc := 0#32 }) ∨
    (∃ p ps1 ps2, startArgsBad s = false ∧ solveFn s.clkHz s.bitrateHz s.spPct = .config p ps1 ps2 ∧
      startCmd s = startConfigure p ps1 ps2 { s.emit .hpiInit with btc := encBtc (.config p ps1 ps2) }) := by
  cases hb : startArgsBad s
  · right
    cases hr : solveFn s.clkHz s.bitrateHz s.spPct with
    | config p a b => exact .inr ⟨p, a, b, rfl, rfl, by simp [startCmd, hb, hr]⟩
    | noSolution => exact .inl ⟨rfl, rfl, by simp [startCmd, hb, hr]⟩
    | badArg =>
      rw [solveFn_eq_badArg_iff, argsBad_of_startArgsBad hb] at hr
      exact absurd hr (by decide)
  · exact .inl ⟨rfl, by simp [startCmd, hb]⟩

/-- The command word's kind decides what a CTRL write runs. -/
theorem runCommand_cases (c : Command) (s : State) :
    (c = .nop ∧ runCommand c s = s) ∨ (c = .solve ∧ runCommand c s = solveCmd s) ∨
    (c = .start ∧ runCommand c s = startCmd s) ∨ (c = .reserved ∧ runCommand c s = reservedCmd s) := by
  cases c <;> simp [runCommand, nopCmd]

/-- The W-bit value of a word is below 2^W. -/
theorem wBits_lt (w : Nat) (v : Word) : (wBits w v).toNat < 2 ^ w := by
  rw [wBits, BitVec.toNat_ofNat]
  exact lt_of_le_of_lt (Nat.mod_le _ _) (Nat.mod_lt _ (Nat.two_pow_pos w))

/-- A W-bit value is its own W-bit value: reading a register that fits changes nothing. -/
theorem wBits_eq_self {w : Nat} {v : Word} (h : v.toNat < 2 ^ w) : wBits w v = v := by
  rw [wBits, Nat.mod_eq_of_lt h, BitVec.ofNat_toNat, BitVec.setWidth_eq]

/-- A counter sample is a W-bit value (R270). -/
theorem sampleCounter_lt (s : State) : (sampleCounter s).toNat < 2 ^ s.args.w := wBits_lt _ _

/-- Elapsed ticks are a W-bit value (R171). -/
theorem elapsedTicks_lt (w : Nat) (now last : Word) : (elapsedTicks w now last).toNat < 2 ^ w := wBits_lt _ _

end Sys2Proof.Machine
end

