-- ==== Sys2Proof/Laws/Step.lean ====
section
/-! SUPPORT. What exec and step can do, said once, by kind of operation and by kind of turn. -/

namespace Sys2Proof.Machine

/-- Every operation that answers a next state is a gated write, a read, a POLL or a TXDONE. -/
theorem exec_cases {i : Instr} {s t : State} (h : exec i s = .next t) :
    (∃ r v, t = writeConfig r v s) ∨ (∃ c, t = gatedWrite .ctrl (runCommand c) s) ∨ (∃ r, t = readReg r s) ∨
    (i = .poll ∧ t = whenEnabled .await pollEffect s) ∨
    (i = .txdone ∧ t = whenEnabled .transmit txdoneEffect s) := by
  cases i <;> injection h with h
  case wrCtrl cw => exact .inr (.inl ⟨decodeCmd cw, h.symm⟩)
  case wrClkHz v => exact .inl ⟨.clkHz, v, h.symm⟩
  case wrBitrateHz v => exact .inl ⟨.bitrateHz, v, h.symm⟩
  case wrSpPct v => exact .inl ⟨.spPct, v, h.symm⟩
  case wrInterval v => exact .inl ⟨.interval, v, h.symm⟩
  case wrFrameId v => exact .inl ⟨.frameId, v, h.symm⟩
  case wrFrameDlc v => exact .inl ⟨.frameDlc, v, h.symm⟩
  case rdStatus => exact .inr (.inr (.inl ⟨.status, h.symm⟩))
  case rdClkHz => exact .inr (.inr (.inl ⟨.config .clkHz, h.symm⟩))
  case rdBitrateHz => exact .inr (.inr (.inl ⟨.config .bitrateHz, h.symm⟩))
  case rdSpPct => exact .inr (.inr (.inl ⟨.config .spPct, h.symm⟩))
  case rdInterval => exact .inr (.inr (.inl ⟨.config .interval, h.symm⟩))
  case rdFrameId => exact .inr (.inr (.inl ⟨.config .frameId, h.symm⟩))
  case rdFrameDlc => exact .inr (.inr (.inl ⟨.config .frameDlc, h.symm⟩))
  case rdBtc => exact .inr (.inr (.inl ⟨.btc, h.symm⟩))
  case rdLastTick => exact .inr (.inr (.inl ⟨.lastTick, h.symm⟩))
  case rdNow => exact .inr (.inr (.inl ⟨.now, h.symm⟩))
  case rdElapsed => exact .inr (.inr (.inl ⟨.elapsed, h.symm⟩))
  case rdFcLo => exact .inr (.inr (.inl ⟨.fcLo, h.symm⟩))
  case rdFcHi => exact .inr (.inr (.inl ⟨.fcHi, h.symm⟩))
  case nop => exact .inr (.inl ⟨.nop, h.symm⟩)
  case solve => exact .inr (.inl ⟨.solve, h.symm⟩)
  case start => exact .inr (.inl ⟨.start, h.symm⟩)
  case poll => exact .inr (.inr (.inr (.inl ⟨rfl, h.symm⟩)))
  case txdone => exact .inr (.inr (.inr (.inr ⟨rfl, h.symm⟩)))

/-- A bus header decodes to the write or the read of a register, whatever else it is. -/
theorem decodeBus_cases {hdr : Header} {data : Word} {i : Instr} (h : decodeBus hdr data = .ok i) :
    ∃ r, regAt (headerOffset hdr) = some r ∧
      ((headerWrite hdr = true ∧ decodeWrite data r = .ok i) ∨ (headerWrite hdr = false ∧ decodeRead r = .ok i)) := by
  simp only [decodeBus] at h
  split at h
  · cases h
  · split at h
    · cases h
    · split at h
      · cases h
      · rename_i r hr
        refine ⟨r, hr, ?_⟩
        cases hw : headerWrite hdr <;> simp [hw] at h
        · exact .inr ⟨rfl, h⟩
        · exact .inl ⟨rfl, h⟩

/-- No bus header spells an internal step. -/
theorem decodeBus_not_internal {hdr : Header} {data : Word} {i : Instr} (h : decodeBus hdr data = .ok i) :
    i ≠ .poll ∧ i ≠ .txdone := by
  obtain ⟨r, -, ⟨-, h⟩ | ⟨-, h⟩⟩ := decodeBus_cases h <;> cases r <;> simp [decodeWrite, decodeRead] at h <;>
    subst h <;> simp

/-- A move of the block runs POLL in AWAIT, TXDONE in TRANSMIT, and nothing elsewhere. -/
theorem blockTurn_cases (s : State) :
    (s.status.state = .await ∧ blockTurn s = .run .poll s) ∨
    (s.status.state = .transmit ∧ blockTurn s = .run .txdone s) ∨ (s.unstarted ∧ blockTurn s = .done s) := by
  cases h : s.status.state <;> simp [blockTurn, h, BlockState.code, decodeInt, State.unstarted]

/-- All a step can do, by the turn it takes. -/
theorem step_cases {s t : State} (h : step s = .next t) :
    (∃ hdr data d i, nextTurn s = .host hdr data d ∧ decodeBus hdr data = .ok i ∧ exec i (takeTurn s) = .next t) ∨
    (∃ hdr data d e, nextTurn s = .host hdr data d ∧ decodeBus hdr data = .error e ∧
      t = busError hdr (takeTurn s)) ∨
    (∃ d, nextTurn s = .block d ∧ s.status.state = .await ∧ t = pollEffect (takeTurn s)) ∨
    (∃ d, nextTurn s = .block d ∧ s.status.state = .transmit ∧ t = txdoneEffect (takeTurn s)) ∨
    (∃ d, nextTurn s = .block d ∧ s.unstarted ∧ t = takeTurn s) ∨
    (nextTurn s = .reset ∧ t = resetBlock (takeTurn s)) := by
  unfold step fetch at h
  cases hn : nextTurn s with
  | host hdr data d =>
    simp only [hn, hostTurn] at h
    cases hd : decodeBus hdr data with
    | ok i => simp only [hd] at h; exact .inl ⟨hdr, data, d, i, rfl, hd, h⟩
    | error e =>
      simp only [hd] at h
      injection h with h
      exact .inr (.inl ⟨hdr, data, d, e, rfl, hd, h.symm⟩)
  | block d =>
    simp only [hn] at h
    rcases blockTurn_cases (takeTurn s) with ⟨hs, hb⟩ | ⟨hs, hb⟩ | ⟨hs, hb⟩ <;> rw [hb] at h <;>
      injection h with h
    · rw [whenEnabled_enabled hs] at h
      exact .inr (.inr (.inl ⟨d, rfl, hs, h.symm⟩))
    · rw [whenEnabled_enabled hs] at h
      exact .inr (.inr (.inr (.inl ⟨d, rfl, hs, h.symm⟩)))
    · exact .inr (.inr (.inr (.inr (.inl ⟨d, rfl, hs, h.symm⟩))))
  | reset =>
    simp only [hn] at h
    injection h with h
    exact .inr (.inr (.inr (.inr (.inr ⟨rfl, h.symm⟩))))

end Sys2Proof.Machine
end

