-- ==== Sys2Proof/Laws/Decode.lean ====
section
/-! SUPPORT. Headers and the registers they name, both ways round. -/

namespace Sys2Proof.Machine

/-- A read header's fields are those it was put together from (R113). -/
theorem readHeader_fields (r : RegName) :
    headerSize (readHeader r) = 0b10#2 ∧ headerWrite (readHeader r) = false ∧
      headerOffset (readHeader r) = regOffset r := by
  cases r <;> decide

/-- A write header's fields are those it was put together from (R113). -/
theorem writeHeader_fields (r : RegName) :
    headerSize (writeHeader r) = 0b10#2 ∧ headerWrite (writeHeader r) = true ∧
      headerOffset (writeHeader r) = regOffset r := by
  cases r <;> decide

/-- The address map gives a register back at its offset (R92). -/
theorem regAt_regOffset (r : RegName) : regAt (regOffset r) = some r := by cases r <;> decide

/-- Every mapped offset is a word offset (R85, R92). -/
theorem regOffset_aligned (r : RegName) : (regOffset r).extractLsb' 0 2 = 0b00#2 := by cases r <;> decide

/-- The address map names each register at one offset only (R92). -/
theorem eq_regOffset_of_regAt {off : Offset} {r : RegName} (h : regAt off = some r) : off = regOffset r := by
  revert off; cases r <;> decide +kernel

/-- A header is its three fields (R111). -/
theorem header_eq (hdr : Header) :
    hdr = headerSize hdr ++ BitVec.ofBool (headerWrite hdr) ++ headerOffset hdr := by
  revert hdr; decide +kernel

/-- A transaction that decodes carries the write or the read header of its register, and nothing else does. -/
theorem decodeBus_ok_cases {hdr : Header} {data : Word} {i : Instr} (h : decodeBus hdr data = .ok i) :
    ∃ r, (hdr = writeHeader r ∧ decodeWrite data r = .ok i) ∨ (hdr = readHeader r ∧ decodeRead r = .ok i) := by
  have hs : headerSize hdr = 0b10#2 := by
    by_contra hne
    rw [decodeBus, if_pos hne] at h
    cases h
  obtain ⟨r, hr, ⟨hw, hd⟩ | ⟨hw, hd⟩⟩ := decodeBus_cases h <;> refine ⟨r, ?_⟩
  · exact .inl ⟨by rw [header_eq hdr, hs, hw, eq_regOffset_of_regAt hr]; rfl, hd⟩
  · exact .inr ⟨by rw [header_eq hdr, hs, hw, eq_regOffset_of_regAt hr]; rfl, hd⟩

/-- A write header decodes by the write column of R113. -/
theorem decodeBus_writeHeader (r : RegName) (data : Word) :
    decodeBus (writeHeader r) data = decodeWrite data r := by
  cases r <;> rfl

/-- A read header decodes by the read column of R113. -/
theorem decodeBus_readHeader (r : RegName) (data : Word) : decodeBus (readHeader r) data = decodeRead r := by
  cases r <;> rfl

/-- Whether a header is legal does not depend on the data lane (R119). -/
theorem decodeBus_isOk_data (hdr : Header) (v w : Word) :
    (∃ i, decodeBus hdr v = .ok i) ↔ ∃ i, decodeBus hdr w = .ok i := by
  constructor <;> rintro ⟨i, h⟩ <;> obtain ⟨r, ⟨rfl, hd⟩ | ⟨rfl, hd⟩⟩ := decodeBus_ok_cases h
  · rw [decodeBus_writeHeader]; cases r <;> simp [decodeWrite] at hd ⊢
  · rw [decodeBus_readHeader]; exact ⟨i, hd⟩
  · rw [decodeBus_writeHeader]; cases r <;> simp [decodeWrite] at hd ⊢
  · rw [decodeBus_readHeader]; exact ⟨i, hd⟩

/-- What a write header runs: a configuration write, or the CTRL write. -/
theorem exec_of_decodeWrite {r : RegName} {data : Word} {i : Instr} (h : decodeWrite data r = .ok i) (s : State) :
    (r = .ctrl ∧ exec i s = .next (gatedWrite .ctrl (runCommand (decodeCmd data)) s)) ∨
    (∃ c : ConfigReg, r = c.reg ∧ exec i s = .next (writeConfig c data s)) := by
  cases r <;> simp only [decodeWrite, Except.ok.injEq, reduceCtorEq] at h <;> subst h
  · exact .inl ⟨rfl, rfl⟩
  · exact .inr ⟨.clkHz, rfl, rfl⟩
  · exact .inr ⟨.bitrateHz, rfl, rfl⟩
  · exact .inr ⟨.spPct, rfl, rfl⟩
  · exact .inr ⟨.interval, rfl, rfl⟩
  · exact .inr ⟨.frameId, rfl, rfl⟩
  · exact .inr ⟨.frameDlc, rfl, rfl⟩

/-- What a read header runs. -/
theorem exec_of_decodeRead {r : RegName} {i : Instr} (h : decodeRead r = .ok i) (s : State) :
    ∃ c : ReadReg, r = c.reg ∧ exec i s = .next (readReg c s) := by
  cases r <;> simp only [decodeRead, Except.ok.injEq, reduceCtorEq] at h <;> subst h
  · exact ⟨.status, rfl, rfl⟩
  · exact ⟨.config .clkHz, rfl, rfl⟩
  · exact ⟨.config .bitrateHz, rfl, rfl⟩
  · exact ⟨.config .spPct, rfl, rfl⟩
  · exact ⟨.config .interval, rfl, rfl⟩
  · exact ⟨.config .frameId, rfl, rfl⟩
  · exact ⟨.config .frameDlc, rfl, rfl⟩
  · exact ⟨.btc, rfl, rfl⟩
  · exact ⟨.lastTick, rfl, rfl⟩
  · exact ⟨.now, rfl, rfl⟩
  · exact ⟨.elapsed, rfl, rfl⟩
  · exact ⟨.fcLo, rfl, rfl⟩
  · exact ⟨.fcHi, rfl, rfl⟩

/-- All a step can do, in the shared operations alone: the inversion every invariant is proved through. -/
theorem step_inversion {s t : State} (h : step s = .next t) :
    (∃ data d, nextTurn s = .host (writeHeader .ctrl) data d ∧
      t = gatedWrite .ctrl (runCommand (decodeCmd data)) (takeTurn s)) ∨
    (∃ (c : ConfigReg) (data : Word) (d : Draws), nextTurn s = .host (writeHeader c.reg) data d ∧
      t = writeConfig c data (takeTurn s)) ∨
    (∃ (c : ReadReg) (data : Word) (d : Draws), nextTurn s = .host (readHeader c.reg) data d ∧
      t = readReg c (takeTurn s)) ∨
    (∃ hdr data d e, nextTurn s = .host hdr data d ∧ decodeBus hdr data = .error e ∧
      t = busError hdr (takeTurn s)) ∨
    (∃ d, nextTurn s = .block d ∧ s.status.state = .await ∧ t = pollEffect (takeTurn s)) ∨
    (∃ d, nextTurn s = .block d ∧ s.status.state = .transmit ∧ t = txdoneEffect (takeTurn s)) ∨
    (∃ d, nextTurn s = .block d ∧ s.unstarted ∧ t = takeTurn s) ∨
    (nextTurn s = .reset ∧ t = resetBlock (takeTurn s)) := by
  rcases step_cases h with ⟨hdr, data, d, i, hn, hd, he⟩ | h
  · obtain ⟨r, ⟨rfl, hw⟩ | ⟨rfl, hw⟩⟩ := decodeBus_ok_cases hd
    · rcases exec_of_decodeWrite hw (takeTurn s) with ⟨rfl, hx⟩ | ⟨c, rfl, hx⟩ <;> rw [hx] at he <;>
        injection he with he
      · exact .inl ⟨data, d, hn, he.symm⟩
      · exact .inr (.inl ⟨c, data, d, hn, he.symm⟩)
    · obtain ⟨c, rfl, hx⟩ := exec_of_decodeRead hw (takeTurn s)
      rw [hx] at he
      injection he with he
      exact .inr (.inr (.inl ⟨c, data, d, hn, he.symm⟩))
  · exact .inr (.inr (.inr h))

end Sys2Proof.Machine
end

