-- ==== Sys2Proof/Laws/Inversion.lean ====
section
/-! SUPPORT. The whole case split of a step, every guard and every branch of a command opened: one lemma an invariant's
proof can start from. -/

namespace Sys2Proof.Machine

/-- The registers a host may write: CTRL and the configuration registers (R113). -/
def isWritable : RegName → Bool
  | .ctrl | .clkHz | .bitrateHz | .spPct | .interval | .frameId | .frameDlc => true
  | .status | .btc | .lastTick | .now | .elapsed | .fcLo | .fcHi => false

/-- The configuration registers are writable. -/
theorem reg_isWritable (c : ConfigReg) : isWritable c.reg = true := by cases c <;> rfl

/-- START once its configuration is solved: what the HPI has been sent and has answered, BTC already written. -/
abbrev startConfigured (p ps1 ps2 : Nat) (a : HpiAnswer) (s : State) : State :=
  { s with
    btc := encBtc (.config p ps1 ps2)
    trace := s.trace ++ [.hpiInit, .hpiConfigureReq p ps1 ps2, .hpiConfigureAns a] }

/-- Every branch of every command. -/
theorem runCommand_outcomes (c : Command) (s : State) :
    (c = .nop ∧ runCommand c s = s) ∨
    (c = .solve ∧ runCommand c s = solveCmd s) ∨
    (c = .start ∧ startArgsBad s = true ∧ runCommand c s = rejectArg s) ∨
    (c = .start ∧ startArgsBad s = false ∧ solveFn s.clkHz s.bitrateHz s.spPct = .noSolution ∧
      runCommand c s = State.halt .noSolution { s.emit .hpiInit with btc := 0#32 }) ∨
    (∃ p a b, c = .start ∧ startArgsBad s = false ∧ solveFn s.clkHz s.bitrateHz s.spPct = .config p a b ∧
      configureAnswer s = .err ∧ runCommand c s = State.halt .configRejected (startConfigured p a b .err s)) ∨
    (∃ p a b, c = .start ∧ startArgsBad s = false ∧ solveFn s.clkHz s.bitrateHz s.spPct = .config p a b ∧
      configureAnswer s = .ok ∧ runCommand c s = startSchedule (startConfigured p a b .ok s)) ∨
    (c = .reserved ∧ runCommand c s = reservedCmd s) := by
  have tr : ∀ (x y z : Event), ((s.trace ++ [x]) ++ [y]) ++ [z] = s.trace ++ [x, y, z] := by
    intro x y z; simp
  cases c with
  | nop => exact .inl ⟨rfl, rfl⟩
  | solve => exact .inr (.inl ⟨rfl, rfl⟩)
  | reserved => exact .inr (.inr (.inr (.inr (.inr (.inr ⟨rfl, rfl⟩)))))
  | start =>
    rcases startCmd_cases s with ⟨h1, h⟩ | ⟨h1, h2, h⟩ | ⟨p, a, b, h1, h2, h⟩
    · exact .inr (.inr (.inl ⟨rfl, h1, h⟩))
    · exact .inr (.inr (.inr (.inl ⟨rfl, h1, h2, h⟩)))
    · rcases startConfigure_cases p a b { s.emit .hpiInit with btc := encBtc (.config p a b) } with ⟨h3, h4⟩ | ⟨h3, h4⟩
      · exact .inr (.inr (.inr (.inr (.inl ⟨p, a, b, rfl, h1, h2, h3, by
          rw [runCommand, h, h4]; simp only [State.emit, tr]⟩))))
      · exact .inr (.inr (.inr (.inr (.inr (.inl ⟨p, a, b, rfl, h1, h2, h3, by
          rw [runCommand, h, h4]; simp only [State.emit, tr]⟩)))))

/-- Every branch of a step but a command's own (for those see `runCommand_outcomes`). -/
theorem step_outcomes {s t : State} (h : step s = .next t) :
    (∃ v d, nextTurn s = .host (writeHeader .ctrl) v d ∧ s.status.state = .idle ∧
      t = runCommand (decodeCmd v) (State.respond (writeHeader .ctrl) 0#32 (takeTurn s))) ∨
    (∃ (c : ConfigReg) (v : Word) (d : Draws), nextTurn s = .host (writeHeader c.reg) v d ∧
      s.status.state = .idle ∧ t = setConfig c v (State.respond (writeHeader c.reg) 0#32 (takeTurn s))) ∨
    (∃ (r : RegName) (v : Word) (d : Draws), nextTurn s = .host (writeHeader r) v d ∧ isWritable r = true ∧
      s.status.state ≠ .idle ∧ t = (State.respond (writeHeader r) 0#32 (takeTurn s)).setWign) ∨
    (∃ (c : ReadReg) (v : Word) (d : Draws), nextTurn s = .host (readHeader c.reg) v d ∧
      t = readReg c (takeTurn s)) ∨
    (∃ (hdr : Header) (v : Word) (d : Draws) (e : Reject), nextTurn s = .host hdr v d ∧
      decodeBus hdr v = .error e ∧ t = busError hdr (takeTurn s)) ∨
    (∃ d, nextTurn s = .block d ∧ s.status.state = .await ∧
      (pollSample (takeTurn s)).elapsed < s.interval ∧ t = pollSample (takeTurn s)) ∨
    (∃ d, nextTurn s = .block d ∧ s.status.state = .await ∧
      ¬ (pollSample (takeTurn s)).elapsed < s.interval ∧ t = pollFire (pollSample (takeTurn s))) ∨
    (∃ d, nextTurn s = .block d ∧ s.status.state = .transmit ∧ t = txdoneEffect (takeTurn s)) ∨
    (∃ d, nextTurn s = .block d ∧ s.unstarted ∧ t = takeTurn s) ∨
    (nextTurn s = .reset ∧ t = resetBlock (takeTurn s)) := by
  rcases step_inversion h with ⟨v, d, hn, rfl⟩ | ⟨c, v, d, hn, rfl⟩ | ⟨c, v, d, hn, rfl⟩ | ⟨hdr, v, d, e, hn, he, rfl⟩ |
    ⟨d, hn, hs, rfl⟩ | ⟨d, hn, hs, rfl⟩ | ⟨d, hn, hs, rfl⟩ | ⟨hn, rfl⟩
  · rcases gatedWrite_cases .ctrl (runCommand (decodeCmd v)) (takeTurn s) with ⟨hs, hg⟩ | ⟨hs, hg⟩
    · exact .inl ⟨v, d, hn, hs, hg⟩
    · exact .inr (.inr (.inl ⟨.ctrl, v, d, hn, rfl, hs, hg⟩))
  · rcases gatedWrite_cases c.reg (setConfig c v) (takeTurn s) with ⟨hs, hg⟩ | ⟨hs, hg⟩
    · exact .inr (.inl ⟨c, v, d, hn, hs, hg⟩)
    · exact .inr (.inr (.inl ⟨c.reg, v, d, hn, reg_isWritable c, hs, hg⟩))
  · exact .inr (.inr (.inr (.inl ⟨c, v, d, hn, rfl⟩)))
  · exact .inr (.inr (.inr (.inr (.inl ⟨hdr, v, d, e, hn, he, rfl⟩))))
  · rcases pollEffect_cases (takeTurn s) with ⟨hp, hg⟩ | ⟨hp, hg⟩
    · exact .inr (.inr (.inr (.inr (.inr (.inl ⟨d, hn, hs, hp, hg⟩)))))
    · exact .inr (.inr (.inr (.inr (.inr (.inr (.inl ⟨d, hn, hs, hp, hg⟩))))))
  · exact .inr (.inr (.inr (.inr (.inr (.inr (.inr (.inl ⟨d, hn, hs, rfl⟩)))))))
  · exact .inr (.inr (.inr (.inr (.inr (.inr (.inr (.inr (.inl ⟨d, hn, hs, rfl⟩))))))))
  · exact .inr (.inr (.inr (.inr (.inr (.inr (.inr (.inr (.inr ⟨hn, rfl⟩))))))))

end Sys2Proof.Machine
end

