-- ==== Sys2Proof/Laws/PerInstr.lean ====
section
/-! SUPPORT. Per-instruction laws: every instruction's encoding is a well-formed raw operation. -/

namespace Sys2Proof.Laws.EncodingFits

/-- The raw form of an instruction passes every check of WellFormed, and so does the instruction. -/
def Statement (i : Instr) : Prop := i.wf = true ∧ (encode i).wf = true

theorem wrCtrl (cw : Word) : Statement (.wrCtrl cw) := ⟨rfl, rfl⟩
theorem wrClkHz (data : Word) : Statement (.wrClkHz data) := ⟨rfl, rfl⟩
theorem wrBitrateHz (data : Word) : Statement (.wrBitrateHz data) := ⟨rfl, rfl⟩
theorem wrSpPct (data : Word) : Statement (.wrSpPct data) := ⟨rfl, rfl⟩
theorem wrInterval (data : Word) : Statement (.wrInterval data) := ⟨rfl, rfl⟩
theorem wrFrameId (data : Word) : Statement (.wrFrameId data) := ⟨rfl, rfl⟩
theorem wrFrameDlc (data : Word) : Statement (.wrFrameDlc data) := ⟨rfl, rfl⟩
theorem rdStatus : Statement .rdStatus := ⟨rfl, rfl⟩
theorem rdClkHz : Statement .rdClkHz := ⟨rfl, rfl⟩
theorem rdBitrateHz : Statement .rdBitrateHz := ⟨rfl, rfl⟩
theorem rdSpPct : Statement .rdSpPct := ⟨rfl, rfl⟩
theorem rdInterval : Statement .rdInterval := ⟨rfl, rfl⟩
theorem rdFrameId : Statement .rdFrameId := ⟨rfl, rfl⟩
theorem rdFrameDlc : Statement .rdFrameDlc := ⟨rfl, rfl⟩
theorem rdBtc : Statement .rdBtc := ⟨rfl, rfl⟩
theorem rdLastTick : Statement .rdLastTick := ⟨rfl, rfl⟩
theorem rdNow : Statement .rdNow := ⟨rfl, rfl⟩
theorem rdElapsed : Statement .rdElapsed := ⟨rfl, rfl⟩
theorem rdFcLo : Statement .rdFcLo := ⟨rfl, rfl⟩
theorem rdFcHi : Statement .rdFcHi := ⟨rfl, rfl⟩
theorem nop : Statement .nop := ⟨rfl, rfl⟩
theorem solve : Statement .solve := ⟨rfl, rfl⟩
theorem start : Statement .start := ⟨rfl, rfl⟩
theorem poll : Statement .poll := ⟨rfl, rfl⟩
theorem txdone : Statement .txdone := ⟨rfl, rfl⟩

end Sys2Proof.Laws.EncodingFits
end

