-- ==== Sys2Proof/Laws/Solver.lean ====
section
/-! SUPPORT. The solver's parts in plain arithmetic, and its search as a first match; provers cite these instead of
unfolding the constants of Config. -/

namespace Sys2Proof.Machine

/-- A word is 0 exactly when its value is. -/
theorem word_eq_zero_iff (v : Word) : v = 0#32 ↔ v.toNat = 0 := by
  rw [← BitVec.toNat_inj]; simp

/-- The argument check in plain arithmetic (R141). -/
theorem argsBad_eq_false_iff (clk br sp : Word) : argsBad clk br sp = false ↔
    clk ≠ 0#32 ∧ br ≠ 0#32 ∧ 1 ≤ sp.toNat ∧ sp.toNat ≤ 99 := by
  simp only [argsBad, Bool.or_eq_false_iff, beq_eq_false_iff_ne, decide_eq_false_iff_not, Config.spMin, Config.spMax,
    ne_eq, word_eq_zero_iff, and_assoc, not_lt]

/-- One candidate's three tests (R143 to R145). -/
theorem candidateFits_iff (clk br p : Nat) : candidateFits clk br p = true ↔
    clk % p = 0 ∧ clk / p % br = 0 ∧ clk / p / br ≤ 25 := by
  unfold candidateFits totalQuanta scaledClock
  simp only [Bool.and_eq_true, beq_iff_eq, decide_eq_true_eq, and_assoc]

/-- The candidates are 1 to 1024 (R142). -/
theorem mem_candidates (p : Nat) : p ∈ candidates ↔ 1 ≤ p ∧ p ≤ 1024 := by
  simp only [candidates, Config.pMin, Config.pMax, List.mem_range'_1]; omega

/-- The first match in an ascending range. -/
theorem find?_range'_eq_some_iff (f : Nat → Bool) : ∀ n lo p : Nat,
    (List.range' lo n).find? f = some p ↔
      lo ≤ p ∧ p < lo + n ∧ f p = true ∧ ∀ q, lo ≤ q → q < p → f q = false := by
  intro n
  induction n with
  | zero => intro lo p; simp; omega
  | succ n ih =>
    intro lo p
    rw [List.range'_succ, List.find?_cons]
    cases hf : f lo with
    | true =>
      simp only [Option.some.injEq]
      constructor
      · rintro rfl; exact ⟨by omega, by omega, hf, fun q h1 h2 => by omega⟩
      · rintro ⟨h1, h2, h3, h4⟩
        by_contra hne
        have := h4 lo (by omega) (by omega)
        rw [hf] at this; cases this
    | false =>
      simp only [ih]
      constructor
      · rintro ⟨h1, h2, h3, h4⟩
        refine ⟨by omega, by omega, h3, fun q hq1 hq2 => ?_⟩
        by_cases hqs : q = lo
        · rw [hqs]; exact hf
        · exact h4 q (by omega) hq2
      · rintro ⟨h1, h2, h3, h4⟩
        have : p ≠ lo := by rintro rfl; rw [hf] at h3; cases h3
        exact ⟨by omega, by omega, h3, fun q hq1 hq2 => h4 q (by omega) hq2⟩

/-- The search stops at the first candidate that passes (R142, R146). -/
theorem firstFit_eq_some_iff (clk br p : Nat) : firstFit clk br = some p ↔
    1 ≤ p ∧ p ≤ 1024 ∧ candidateFits clk br p = true ∧
      ∀ q, 1 ≤ q → q < p → candidateFits clk br q = false := by
  rw [firstFit, candidates, find?_range'_eq_some_iff]
  simp only [Config.pMin, Config.pMax]
  constructor
  · rintro ⟨h1, h2, h3, h4⟩; exact ⟨h1, by omega, h3, h4⟩
  · rintro ⟨h1, h2, h3, h4⟩; exact ⟨h1, by omega, h3, h4⟩

/-- The search fails when no candidate passes (R147). -/
theorem firstFit_eq_none_iff (clk br : Nat) : firstFit clk br = none ↔
    ∀ p, 1 ≤ p → p ≤ 1024 → candidateFits clk br p = false := by
  simp only [firstFit, List.find?_eq_none, mem_candidates, Bool.not_eq_true, and_imp]

/-- The split that is tried, and when it is kept (R148 to R151). -/
theorem splitAt_eq_config_iff (sp p tq q a b : Nat) : splitAt sp p tq = .config q a b ↔
    q = p ∧ a = (sp * (tq - 1) + 50) / 100 ∧ b = tq - 1 - a ∧ 1 ≤ a ∧ a ≤ 16 ∧ 1 ≤ b ∧ b ≤ 8 := by
  have hf : ∀ x y, splitFits x y = true ↔ 1 ≤ x ∧ x ≤ 16 ∧ 1 ≤ y ∧ y ≤ 8 := by
    intro x y
    simp only [splitFits, Config.ps1Max, Config.ps2Max, Bool.not_eq_true', Bool.or_eq_false_iff,
      beq_eq_false_iff_ne, decide_eq_false_iff_not]
    omega
  simp only [splitAt, hf, phaseSegment1, phaseSegment2, segmentQuanta, Config.syncQ, Config.roundBias,
    Config.roundDiv]
  split
  · simp only [SolveResult.config.injEq]
    constructor
    · rintro ⟨rfl, rfl, rfl⟩; exact ⟨rfl, rfl, rfl, by omega⟩
    · rintro ⟨rfl, rfl, rfl, -⟩; exact ⟨rfl, rfl, rfl⟩
  · simp only [reduceCtorEq, false_iff]
    rintro ⟨-, rfl, rfl, h⟩
    omega

/-- A split is kept or the solve has no solution; it never rejects arguments. -/
theorem splitAt_ne_badArg (sp p tq : Nat) : splitAt sp p tq ≠ .badArg := by
  unfold splitAt; split <;> simp

/-- The solver's answer, by the argument check and the search (R140). -/
theorem solveFn_cases (clk br sp : Word) :
    (argsBad clk br sp = true ∧ solveFn clk br sp = .badArg) ∨
    (argsBad clk br sp = false ∧ firstFit clk.toNat br.toNat = none ∧ solveFn clk br sp = .noSolution) ∨
    (∃ p, argsBad clk br sp = false ∧ firstFit clk.toNat br.toNat = some p ∧
      solveFn clk br sp = splitAt sp.toNat p (clk.toNat / p / br.toNat)) := by
  cases hb : argsBad clk br sp
  · right
    cases hf : firstFit clk.toNat br.toNat with
    | none => exact .inl ⟨rfl, rfl, by simp [solveFn, hb, hf]⟩
    | some p => exact .inr ⟨p, rfl, rfl, by simp [solveFn, hb, hf, totalQuanta, scaledClock]⟩
  · exact .inl ⟨rfl, by simp [solveFn, hb]⟩

/-- The frame identifier check in plain arithmetic (R206). -/
theorem idFits_iff (f : Word) : idFits f = true ↔
    (f.getLsbD 31 = true ∧ (f.extractLsb' 0 31).toNat < 2 ^ 29) ∨
      (f.getLsbD 31 = false ∧ (f.extractLsb' 0 31).toNat < 2 ^ 11) := by
  unfold idFits frameIde frameIdent
  cases f.getLsbD 31
  · rw [if_neg (by decide), decide_eq_true_iff]; exact ⟨fun h => .inr ⟨rfl, h⟩, by rintro (⟨h, -⟩ | ⟨-, h⟩); cases h; exact h⟩
  · rw [if_pos rfl, decide_eq_true_iff]; exact ⟨fun h => .inl ⟨rfl, h⟩, by rintro (⟨-, h⟩ | ⟨h, -⟩); exact h; cases h⟩

/-- START's checks, one by one (R205 to R207). -/
theorem startArgsBad_eq_false_iff (s : State) : startArgsBad s = false ↔
    argsBad s.clkHz s.bitrateHz s.spPct = false ∧ idFits s.frameId = true ∧ s.frameDlc.toNat ≤ 8 ∧
      s.interval.toNat < 2 ^ (s.args.w - 1) := by
  simp only [startArgsBad, Bool.or_eq_false_iff, Bool.not_eq_false', dlcFits, intervalFits, Config.dlcMax,
    decide_eq_true_eq, and_assoc]

end Sys2Proof.Machine
end

