-- ==== Sys2Proof/Laws/Trace.lean ====
section
/-! SUPPORT. How the readings of a trace grow with the trace. -/

namespace Sys2Proof.Machine

/-- The phase after more events is the phase they lead to. -/
theorem phaseOf_append {tr : List Event} {ph : Phase} (h : phaseOf tr = some ph) (es : List Event) :
    phaseOf (tr ++ es) = es.foldlM phaseStep ph := by
  rw [phaseOf, List.foldlM_append, ← phaseOf, h]; rfl

/-- The confirmed count after more events goes on from the count before. -/
theorem confirmed_append (tr es : List Event) : confirmed (tr ++ es) = es.foldl confirmedStep (confirmed tr) := by
  rw [confirmed, List.foldl_append, ← confirmed]

end Sys2Proof.Machine
end

