-- ==== Sys2Proof/Tests/Slice0.lean ====
section
/-! SUPPORT. The model's own tests. Expected values are those of spec/95_test_vectors.md, whose row each test names, or
the rule named; words are written out from 30_encoding.md. Every `witness_<Name>` shows a state and operands that meet
the hypotheses of `Obligations.<Name>`. -/

namespace Sys2Proof.Tests

open Sys2Proof.Machine

/-! ## States and readings -/

/-- The reset state with W = 16 and PAYLOAD_ORDER = LE, as 95_test_vectors.md assumes. -/
def base : State := { State.reset with args := { w := 16, payloadOrder := .le } }

/-- The solver inputs written in IDLE. -/
def inputs (clk br sp : Word) : State := { base with clkHz := clk, bitrateHz := br, spPct := sp }

/-- The registers of vector K8, in IDLE. -/
def ready : State :=
  { inputs 36_000_000#32 1_000_000#32 75#32 with interval := 200#32, frameId := 0x123#32, frameDlc := 4#32 }

/-- What the ports present. -/
def drawing (now : Option Word) (a : Option HpiAnswer) (s : State) : State :=
  { s with ports := { counter := now, hpi := a, index := 0 } }

/-- The moves to come. -/
def next (ts : List Turn) (s : State) : State := { s with turns := ts }

/-- One move of the host. -/
def bus (hdr : Header) (data : Word) (s : State) : State := next [.host hdr data Draws.free] s

/-- The state K8 ends in: AWAIT, LAST_TICK 65500. -/
def awaiting : State :=
  { ready with
    status := { state := .await, result := .ok, dbg := false, wign := false, fault := false }
    btc := 0x840D_0002#32, lastTick := 65500#32, now := 65500#32
    trace := [.busResp 0x140#9 0#32 .okay, .hpiInit, .hpiConfigureReq 2 13 4, .hpiConfigureAns .ok] }

/-- AWAIT with another LAST_TICK and INTERVAL, a sample at the counter port. -/
def pacing (last interval now : Word) : State :=
  drawing (some now) none { awaiting with lastTick := last, interval := interval }

/-- TRANSMIT with frame 0 pending, as after a firing POLL. -/
def transmitting : State :=
  { awaiting with
    status := { state := .transmit, result := .ok, dbg := true, wign := false, fault := false }
    pending := some (frameFor 0#64 awaiting)
    trace := awaiting.trace ++ [.dbgRise, .hpiTransmitReq (frameFor 0#64 awaiting)] }

/-- TRANSMIT with a frame counter and an answer at the port. -/
def answering (fc : BitVec 64) (a : HpiAnswer) : State := drawing none (some a) { transmitting with frameCounter := fc }

/-- HALTED with NO_SOLUTION, as after K10. -/
def halted : State :=
  { inputs 25_000_000#32 1_000_000#32 50#32 with
    status := { state := .halted, result := .noSolution, dbg := false, wign := false, fault := false }
    interval := 200#32, frameId := 0x123#32, frameDlc := 4#32, trace := [.busResp 0x140#9 0#32 .okay, .hpiInit] }

/-- A reading of the next state; none where there is none. -/
def got {α : Type} (f : State → α) : Host.Outcome State Fault Refusal → Option α
  | .next s => some (f s)
  | .fault _ => none
  | .refused _ => none

/-- STATUS as a read would return it, with BTC: what section 3 of the vectors lists. -/
def stBtc (s : State) : Word × Word := (s.status.word, s.btc)

/-- The last event. -/
def lastEvent (s : State) : Option Event := s.trace.getLast?

/-! ## WellFormed: each check refuses an ill-formed operation -/

/-- B9: SIZE 01. -/
theorem test_wf_size : (OpWord.bus 0x088#9 0#32).wf = false := by decide
/-- B12: offset 0x0A. -/
theorem test_wf_aligned : (OpWord.bus 0x10A#9 0#32).wf = false := by decide
/-- B7, B8: offsets 0x38 and 0x3C. -/
theorem test_wf_mapped : (OpWord.bus 0x138#9 0#32).wf = false ∧ (OpWord.bus 0x17C#9 0#32).wf = false := by decide
/-- B4: a read of CTRL. -/
theorem test_wf_readable : (OpWord.bus 0x100#9 0#32).wf = false := by decide
/-- B5, B6: writes of STATUS and BTC. -/
theorem test_wf_writable : (OpWord.bus 0x144#9 1#32).wf = false ∧ (OpWord.bus 0x160#9 0#32).wf = false := by decide
/-- K6, K7: bits above OP set. -/
theorem test_wf_mbz : (OpWord.cmd 0x0000_0011#32).wf = false ∧ (OpWord.cmd 0x8000_0002#32).wf = false := by decide
/-- K5: OP 3. -/
theorem test_wf_op : (OpWord.cmd 0x0000_0003#32).wf = false := by decide
/-- R116: no internal step in IDLE or HALTED. -/
theorem test_wf_state : (OpWord.int 0b00#2).wf = false ∧ (OpWord.int 0b11#2).wf = false := by decide
/-- The checks pass what they should: B1, B2, B16 and the two internal steps. -/
theorem test_wf_accepts : (OpWord.bus 0x148#9 0x0225_5100#32).wf = true ∧ (OpWord.bus 0x108#9 0#32).wf = true ∧
    (OpWord.cmd 0x2#32).wf = true ∧ (OpWord.int 0b01#2).wf = true ∧ (OpWord.int 0b10#2).wf = true := by decide

/-! ## Decoding: one word written out bit by bit for each operation (R113, R115, R116) -/

theorem test_decode_wrCtrl : decode (.bus 0b10_1_000000#9 0x3#32) = .ok (.wrCtrl 0x3#32) := by rfl
theorem test_decode_wrClkHz : decode (.bus 0b10_1_001000#9 0x0225_5100#32) = .ok (.wrClkHz 36_000_000#32) := by rfl
theorem test_decode_wrBitrateHz : decode (.bus 0b10_1_001100#9 0x000F_4240#32) = .ok (.wrBitrateHz 1_000_000#32) := by rfl
theorem test_decode_wrSpPct : decode (.bus 0b10_1_010000#9 0x4B#32) = .ok (.wrSpPct 75#32) := by rfl
theorem test_decode_wrInterval : decode (.bus 0b10_1_010100#9 0xC8#32) = .ok (.wrInterval 200#32) := by rfl
theorem test_decode_wrFrameId : decode (.bus 0b10_1_011000#9 0x9FFF_FFFF#32) = .ok (.wrFrameId 0x9FFF_FFFF#32) := by rfl
theorem test_decode_wrFrameDlc : decode (.bus 0b10_1_011100#9 0x8#32) = .ok (.wrFrameDlc 8#32) := by rfl
theorem test_decode_rdStatus : decode (.bus 0b10_0_000100#9 0#32) = .ok .rdStatus := by rfl
theorem test_decode_rdClkHz : decode (.bus 0b10_0_001000#9 0#32) = .ok .rdClkHz := by rfl
theorem test_decode_rdBitrateHz : decode (.bus 0b10_0_001100#9 0#32) = .ok .rdBitrateHz := by rfl
theorem test_decode_rdSpPct : decode (.bus 0b10_0_010000#9 0#32) = .ok .rdSpPct := by rfl
theorem test_decode_rdInterval : decode (.bus 0b10_0_010100#9 0#32) = .ok .rdInterval := by rfl
theorem test_decode_rdFrameId : decode (.bus 0b10_0_011000#9 0#32) = .ok .rdFrameId := by rfl
theorem test_decode_rdFrameDlc : decode (.bus 0b10_0_011100#9 0#32) = .ok .rdFrameDlc := by rfl
theorem test_decode_rdBtc : decode (.bus 0b10_0_100000#9 0#32) = .ok .rdBtc := by rfl
theorem test_decode_rdLastTick : decode (.bus 0b10_0_100100#9 0#32) = .ok .rdLastTick := by rfl
theorem test_decode_rdNow : decode (.bus 0b10_0_101000#9 0#32) = .ok .rdNow := by rfl
theorem test_decode_rdElapsed : decode (.bus 0b10_0_101100#9 0#32) = .ok .rdElapsed := by rfl
theorem test_decode_rdFcLo : decode (.bus 0b10_0_110000#9 0#32) = .ok .rdFcLo := by rfl
theorem test_decode_rdFcHi : decode (.bus 0b10_0_110100#9 0#32) = .ok .rdFcHi := by rfl
theorem test_decode_nop : decode (.cmd 0b0000#32) = .ok .nop := by rfl
theorem test_decode_solve : decode (.cmd 0b0001#32) = .ok .solve := by rfl
theorem test_decode_start : decode (.cmd 0b0010#32) = .ok .start := by rfl
theorem test_decode_poll : decode (.int 0b01#2) = .ok .poll := by rfl
theorem test_decode_txdone : decode (.int 0b10#2) = .ok .txdone := by rfl
/-- The table's numbering, one word of each length (log 10). -/
theorem test_table_words : decodeTableWord 8 0x1 = some .poll ∧ decodeTableWord 16 0x148 = some (.wrClkHz 0#32) ∧
    decodeTableWord 32 0x2 = some .start ∧ decodeTableWord 48 0x0225_5100_0148 = some (.wrClkHz 36_000_000#32) ∧
    decodeTableWord 16 0x100 = none := by decide
/-- A placed word of each length runs from reset. -/
theorem test_withFetchWord : got (·.status.result) (step (State.reset.withFetchWord 32 0x3)) = some .badCmd ∧
    got (·.clkHz) (step (State.reset.withFetchWord 48 0x0225_5100_0148)) = some 36_000_000#32 ∧
    got (·.status.state) (step (State.reset.withFetchWord 8 0x1)) = some .transmit := by
  refine ⟨?_, ?_, ?_⟩ <;> rfl

/-! ## Register access -/

/-- B1, by a step: WR_CLK_HZ in IDLE. -/
theorem test_wrClkHz : got (fun s => (s.clkHz, lastEvent s)) (step (bus 0x148#9 0x0225_5100#32 base)) =
    some (36_000_000#32, some (.busResp 0x148#9 0#32 .okay)) := by decide
theorem test_wrBitrateHz : got (fun s => (s.bitrateHz, s.clkHz)) (exec (.wrBitrateHz 1_000_000#32) ready) =
    some (1_000_000#32, 36_000_000#32) := by decide
/-- B3: WR_SP_PCT in AWAIT is ignored, and sets WIGN. -/
theorem test_wrSpPct : got (fun s => (s.spPct, s.status.wign)) (exec (.wrSpPct 0x4C#32) awaiting) =
    some (75#32, true) := by decide
/-- Program 4: SP_PCT 100 is stored, unchecked. -/
theorem test_wrSpPct_unchecked : got (·.spPct) (exec (.wrSpPct 100#32) base) = some 100#32 := by decide
theorem test_wrInterval : got (·.interval) (exec (.wrInterval 0x8000#32) base) = some 0x8000#32 := by decide
/-- R224: INTERVAL in TRANSMIT is frozen. -/
theorem test_wrInterval_frozen : got (·.interval) (exec (.wrInterval 5#32) transmitting) = some 200#32 := by decide
theorem test_wrFrameId : got (·.frameId) (exec (.wrFrameId 0x98DA_F110#32) base) = some 0x98DA_F110#32 := by decide
theorem test_wrFrameDlc : got (·.frameDlc) (exec (.wrFrameDlc 9#32) base) = some 9#32 := by decide
/-- B14: STATUS in TRANSMIT. -/
theorem test_rdStatus : got lastEvent (exec .rdStatus transmitting) =
    some (some (.busResp 0x104#9 0x0000_0112#32 .okay)) := by decide
/-- B2. -/
theorem test_rdClkHz : got lastEvent (exec .rdClkHz ready) =
    some (some (.busResp 0x108#9 0x0225_5100#32 .okay)) := by decide
theorem test_rdBitrateHz : got lastEvent (exec .rdBitrateHz ready) =
    some (some (.busResp 0x10C#9 0x000F_4240#32 .okay)) := by decide
theorem test_rdSpPct : got lastEvent (exec .rdSpPct ready) = some (some (.busResp 0x110#9 0x4B#32 .okay)) := by decide
theorem test_rdInterval : got lastEvent (exec .rdInterval ready) = some (some (.busResp 0x114#9 0xC8#32 .okay)) := by
  decide
theorem test_rdFrameId : got lastEvent (exec .rdFrameId ready) = some (some (.busResp 0x118#9 0x123#32 .okay)) := by
  decide
theorem test_rdFrameDlc : got lastEvent (exec .rdFrameDlc ready) = some (some (.busResp 0x11C#9 4#32 .okay)) := by decide
/-- Program 1. -/
theorem test_rdBtc : got lastEvent (exec .rdBtc awaiting) =
    some (some (.busResp 0x120#9 0x840D_0002#32 .okay)) := by decide
/-- B13: zero-extended. -/
theorem test_rdLastTick : got lastEvent (exec .rdLastTick awaiting) =
    some (some (.busResp 0x124#9 0x0000_FFDC#32 .okay)) := by decide
theorem test_rdNow : got lastEvent (exec .rdNow { awaiting with now := 600#32 }) =
    some (some (.busResp 0x128#9 600#32 .okay)) := by decide
/-- Program 2. -/
theorem test_rdElapsed : got lastEvent (exec .rdElapsed { awaiting with elapsed := 100#32 }) =
    some (some (.busResp 0x12C#9 0x64#32 .okay)) := by decide
/-- R44: the two halves of 0x0000_0001_0000_0002. -/
theorem test_rdFcLo : got lastEvent (exec .rdFcLo { base with frameCounter := 0x1_0000_0002#64 }) =
    some (some (.busResp 0x130#9 2#32 .okay)) := by decide
theorem test_rdFcHi : got lastEvent (exec .rdFcHi { base with frameCounter := 0x1_0000_0002#64 }) =
    some (some (.busResp 0x134#9 1#32 .okay)) := by decide
/-- B4, B5: bus errors, in IDLE and in HALTED, set no flag. -/
theorem test_busError : got (fun s => (lastEvent s, s.status)) (step (bus 0x100#9 0#32 base)) =
      some (some (.busResp 0x100#9 0#32 .slverr), base.status) ∧
    got (fun s => (lastEvent s, s.status)) (step (bus 0x144#9 1#32 halted)) =
      some (some (.busResp 0x144#9 0#32 .slverr), halted.status) := by decide

/-! ## The solver -/

/-- V1, V4, V5, V29. -/
theorem test_solver_configs : solveFn 36_000_000#32 1_000_000#32 75#32 = .config 2 13 4 ∧
    solveFn 36_000_000#32 125_000#32 70#32 = .config 12 16 7 ∧ solveFn 25_600#32 1#32 66#32 = .config 1024 16 8 ∧
    solveFn 36_000_000#32 800_000#32 80#32 = .config 3 11 3 := by decide +kernel
/-- V2: a half rounds up; V21, V22, V23: the edges of tq = 10. -/
theorem test_solver_rounding : solveFn 14_000_000#32 1_000_000#32 50#32 = .config 1 7 6 ∧
    solveFn 10_000_000#32 1_000_000#32 6#32 = .config 1 1 8 ∧ solveFn 10_000_000#32 1_000_000#32 94#32 = .config 1 8 1 ∧
    solveFn 10_000_000#32 1_000_000#32 95#32 = .noSolution := by decide +kernel
/-- V6 (the search does not resume), V10, V14, V16, V30. -/
theorem test_solver_noSolution : solveFn 25_000_000#32 1_000_000#32 50#32 = .noSolution ∧
    solveFn 1_000_000#32 1_000_000#32 50#32 = .noSolution ∧ solveFn 8_000_000#32 10_000_000#32 75#32 = .noSolution ∧
    solveFn 25_625#32 1#32 66#32 = .noSolution ∧ solveFn 0xFFFF_FFFF#32 0xFFFF_FFFF#32 50#32 = .noSolution := by
  decide +kernel
/-- V17 to V20. -/
theorem test_solver_badArg : solveFn 36_000_000#32 1_000_000#32 0#32 = .badArg ∧
    solveFn 36_000_000#32 1_000_000#32 100#32 = .badArg ∧ solveFn 0#32 1_000_000#32 75#32 = .badArg ∧
    solveFn 36_000_000#32 0#32 75#32 = .badArg := by decide
/-- V1, V4, V5: ENC_BTC. -/
theorem test_encBtc : encBtc (.config 2 13 4) = 0x840D_0002#32 ∧ encBtc (.config 12 16 7) = 0x8710_000C#32 ∧
    encBtc (.config 1024 16 8) = 0x8810_0400#32 := by decide

/-! ## Commands -/

/-- K5: a reserved word through a CTRL write. -/
theorem test_wrCtrl_reserved : got stBtc (exec (.wrCtrl 0x3#32) base) = some (0x450#32, 0#32) := by decide
/-- K19: START again in AWAIT. -/
theorem test_wrCtrl_ignored : got stBtc (exec (.wrCtrl 0x2#32) awaiting) = some (0x211#32, 0x840D_0002#32) := by decide
/-- K4. -/
theorem test_nop : got stBtc (exec .nop base) = some (0#32, 0#32) := by decide
/-- K20: NOP in HALTED sets WIGN. -/
theorem test_nop_halted : got stBtc (exec .nop halted) = some (0x223#32, 0#32) := by decide
/-- K1. -/
theorem test_solve_ok : got stBtc (exec .solve (inputs 36_000_000#32 1_000_000#32 75#32)) =
    some (0x10#32, 0x840D_0002#32) := by decide +kernel
/-- K3. -/
theorem test_solve_badArg : got stBtc (exec .solve (inputs 36_000_000#32 1_000_000#32 100#32)) =
    some (0x440#32, 0#32) := by decide +kernel
/-- K8. -/
theorem test_start : got (fun s => (stBtc s, s.lastTick, s.now, s.elapsed, s.trace))
      (exec .start (drawing (some 65500#32) (some .ok) ready)) =
    some ((0x11#32, 0x840D_0002#32), 65500#32, 65500#32, 0#32,
      [.busResp 0x140#9 0#32 .okay, .hpiInit, .hpiConfigureReq 2 13 4, .hpiConfigureAns .ok]) := by decide +kernel
/-- K9, K10: the two ways into HALTED. -/
theorem test_start_halts : got stBtc (exec .start (drawing none (some .err) ready)) = some (0x33#32, 0x840D_0002#32) ∧
    got stBtc (exec .start { ready with clkHz := 25_000_000#32, spPct := 50#32 }) = some (0x23#32, 0#32) := by
  decide +kernel

/-! ## The scheduler -/

/-- T2: Scenario C corrected, a wait. -/
theorem test_poll_waits : got (fun s => (s.now, s.elapsed, s.lastTick, s.status.state, s.trace.length))
    (exec .poll (pacing 65500#32 200#32 64#32)) = some (64#32, 100#32, 65500#32, .await, 4) := by decide +kernel
/-- T3: exactly due. -/
theorem test_poll_fires : got (fun s => (s.elapsed, s.lastTick, s.status.word, lastEvent s))
    (exec .poll (pacing 65500#32 200#32 164#32)) = some (200#32, 164#32, 0x112#32,
      some (.hpiTransmitReq ⟨0x123#31, false, 4#32, [0#8, 0#8, 0#8, 0#8]⟩)) := by decide +kernel
/-- X3: the counter wraps. -/
theorem test_txdone_ok : got (fun s => (s.frameCounter, s.status.word, s.pending, lastEvent s))
    (exec .txdone (answering 0xFFFF_FFFF_FFFF_FFFF#64 .ok)) = some (0#64, 0x11#32, none, some .dbgFall) := by decide
/-- X2: an error counts nothing. -/
theorem test_txdone_err : got (fun s => (s.frameCounter, s.status.word)) (exec .txdone (answering 5#64 .err)) =
    some (5#64, 0x11#32) := by decide
/-- T13: W = 8. -/
theorem test_elapsed_w8 : elapsedTicks 8 4#32 250#32 = 10#32 := by decide
/-- Y1, Y2, Y3. -/
theorem test_payload : payload .le 0x0102#64 2 = [0x02#8, 0x01#8] ∧ payload .be 0x0102#64 2 = [0x01#8, 0x02#8] ∧
    payload .be 0x0807_0605_0403_0201#64 8 = [0x08#8, 0x07#8, 0x06#8, 0x05#8, 0x04#8, 0x03#8, 0x02#8, 0x01#8] ∧
    payload .le 0x0123_4567#64 3 = [0x67#8, 0x45#8, 0x23#8] := by decide
/-- Program 5: reset during a transmit. -/
theorem test_reset : got (fun s => (s.status.word, s.pending, s.clkHz, lastEvent s)) (step (next [.reset] transmitting)) =
    some (0#32, none, 0#32, some .reset) := by decide
/-- Program 1 assembles to its six transactions (R123, R124). -/
theorem test_assemble : assemble [.setbt 36_000_000#32 1_000_000#32 75#32, .solve, .rd .btc, .rd .status] =
    [.host 0x148#9 0x0225_5100#32 Draws.free, .host 0x14C#9 0x000F_4240#32 Draws.free,
      .host 0x150#9 0x4B#32 Draws.free, .host 0x140#9 0x1#32 Draws.free, .host 0x120#9 0#32 Draws.free,
      .host 0x104#9 0#32 Draws.free] := by decide

/-! ## Witnesses: the hypotheses of each statement can be met -/

/-- `awaiting` and `transmitting` are states of a run: they meet the invariants. -/
theorem awaiting_inv : Inv awaiting where
  args_wf := by decide
  ticks_fit := by decide
  dbg_iff_transmit := by decide
  pending_iff_transmit := by decide
  pending_is_frame := by intro f h; cases h
  running_result := fun _ => rfl
  running_btc := fun _ => ⟨2, 13, 4, by decide +kernel, by decide⟩
  running_checked := by decide
  halted_cause := fun h => absurd h (by decide)
  rejected_halts := by decide
  btc_legal := .inr ⟨2, 13, 4, by decide⟩
  result_ok := fun _ => ⟨2, 13, 4, by decide⟩
  result_zero := by decide
  host_error_fault := by decide
  unstarted_schedule := by decide

theorem transmitting_inv : Inv transmitting where
  args_wf := by decide
  ticks_fit := by decide
  dbg_iff_transmit := by decide
  pending_iff_transmit := by decide
  pending_is_frame := by intro f h; cases h; rfl
  running_result := fun _ => rfl
  running_btc := fun _ => ⟨2, 13, 4, by decide +kernel, by decide⟩
  running_checked := by decide
  halted_cause := fun h => absurd h (by decide)
  rejected_halts := by decide
  btc_legal := .inr ⟨2, 13, 4, by decide⟩
  result_ok := fun _ => ⟨2, 13, 4, by decide⟩
  result_zero := by decide
  host_error_fault := by decide
  unstarted_schedule := by decide

theorem halted_inv : Inv halted where
  args_wf := by decide
  ticks_fit := by decide
  dbg_iff_transmit := by decide
  pending_iff_transmit := by decide
  pending_is_frame := by intro f h; cases h
  running_result := by decide
  running_btc := fun h => absurd h (by decide)
  running_checked := by decide
  halted_cause := fun _ => .inl ⟨rfl, rfl⟩
  rejected_halts := by decide
  btc_legal := .inl rfl
  result_ok := fun h => absurd h (by decide)
  result_zero := fun _ => rfl
  host_error_fault := by decide
  unstarted_schedule := by decide

theorem witness_DecodeAndEncodeAgree : decode (.bus 0x108#9 7#32) = .ok .rdClkHz ∧
    decode (.bus 0x148#9 0xFFFF_FFFF#32) = .ok (.wrClkHz 0xFFFF_FFFF#32) := by exact ⟨rfl, rfl⟩

/-- Every clause of R119, at the ends of its range; vectors B4 to B12. -/
theorem witness_IllegalHeadersEndInABusError :
    (∀ hdr ∈ [0x050#9, 0x088#9, 0x184#9, 0x10A#9, 0x10B#9, 0x138#9, 0x17C#9, 0x100#9, 0x144#9, 0x160#9, 0x174#9],
      IllegalHeader hdr) ∧ (bus 0x138#9 1#32 awaiting).turns = [.host 0x138#9 1#32 Draws.free] := by
  unfold IllegalHeader; decide

/-- The legal headers at the ends of R113's columns are not illegal. -/
theorem witness_legalHeaders : ∀ hdr ∈ [0x140#9, 0x148#9, 0x15C#9, 0x104#9, 0x134#9], ¬ IllegalHeader hdr := by
  unfold IllegalHeader; decide

theorem witness_CommandWordsDecode : ReservedWord 3#32 ∧ ReservedWord 15#32 ∧ ReservedWord 0x10#32 ∧
    ReservedWord 0x8000_0002#32 ∧ ¬ ReservedWord 2#32 := by
  unfold ReservedWord; decide

theorem witness_StepRunsTheDecodedOperation :
    ((bus 0x108#9 0#32 ready).turns = [.host 0x108#9 0#32 Draws.free] ∧ decodeBus 0x108#9 0#32 = .ok .rdClkHz) ∧
    ((next [.block Draws.free] awaiting).turns = [.block Draws.free] ∧ awaiting.status.state = .await) ∧
    ((next [] transmitting).turns = [] ∧ transmitting.status.state = .transmit) ∧
    (base.status.state = .idle ∧ halted.status.state = .halted) ∧ (next [.reset] awaiting).turns = [.reset] := by
  exact ⟨⟨rfl, rfl⟩, ⟨rfl, rfl⟩, ⟨rfl, rfl⟩, ⟨rfl, rfl⟩, rfl⟩

theorem witness_CtrlTurnRunsItsCommand : ∀ cw ∈ [0#32, 1#32, 2#32],
    (bus 0x140#9 cw base).turns = .host 0x140#9 cw Draws.free :: [] := by
  intro cw _; rfl

theorem witness_TraceGrowsByWhatTheTurnEmits :
    (∃ t, step (bus 0x140#9 0#32 base) = .next t) ∧ (∃ t, step (next [.block Draws.free] transmitting) = .next t) ∧
    (∃ t, step (next [.reset] awaiting) = .next t) ∧
    nextTurn (bus 0x140#9 0#32 base) = .host 0x140#9 0#32 Draws.free ∧ nextTurn transmitting = .block Draws.free ∧
    nextTurn (next [.reset] awaiting) = .reset := by
  exact ⟨⟨_, rfl⟩, ⟨_, rfl⟩, ⟨_, rfl⟩, rfl, rfl, rfl⟩

theorem witness_ResetPutsEveryRegisterAtItsResetValue :
    (next [.reset, .block Draws.free] transmitting).turns = .reset :: [.block Draws.free] := by rfl

theorem witness_ResetAbandonsTheTransmit : (next [.reset, .block Draws.free] transmitting).status.state = .transmit ∧
    (next [.reset, .block Draws.free] transmitting).turns = .reset :: .block Draws.free :: [] := by exact ⟨rfl, rfl⟩

theorem witness_ConfigurationWritesAreGated : base.status.state = .idle ∧ awaiting.status.state ≠ .idle ∧
    halted.status.state ≠ .idle := by decide

theorem witness_ResultReadsReturnTheRegisters : awaiting.args.wf ∧ awaiting.lastTick.toNat < 2 ^ awaiting.args.w := by
  decide

theorem witness_ReadsHaveNoSideEffect : (bus 0x104#9 0#32 awaiting).turns = .host 0x104#9 0#32 Draws.free :: [] ∧
    (0x104#9).getLsbD 6 = false ∧ (bus 0x100#9 0#32 base).turns = .host 0x100#9 0#32 Draws.free :: [] ∧
    (0x100#9).getLsbD 6 = false := by exact ⟨rfl, rfl, rfl, rfl⟩

theorem witness_ConfigurationReadsBackWhatWasWritten : base.status.state = .idle ∧
    (next [.host 0x150#9 100#32 Draws.free, .host 0x110#9 0#32 Draws.free] base).turns =
      .host 0x150#9 100#32 Draws.free :: .host 0x110#9 0#32 Draws.free :: [] := by exact ⟨rfl, rfl⟩

/-- A tear-safe read across a confirmed transmission that does not carry out of the low half. -/
theorem witness_TearSafeReadIsTheCounter : ∃ s a b c e f,
    s.turns = [.host 0x134#9 0#32 Draws.free, .block ⟨none, some .ok⟩, .host 0x130#9 0#32 Draws.free,
      .block ⟨some 65500#32, none⟩, .host 0x134#9 0#32 Draws.free] ∧
    step s = .next a ∧ step a = .next b ∧ step b = .next c ∧ step c = .next e ∧ step e = .next f ∧
    a.trace = s.trace ++ [.busResp 0x134#9 0#32 .okay] ∧ c.trace = b.trace ++ [.busResp 0x130#9 6#32 .okay] ∧
    f.trace = e.trace ++ [.busResp 0x134#9 0#32 .okay] :=
  ⟨next [.host 0x134#9 0#32 Draws.free, .block ⟨none, some .ok⟩, .host 0x130#9 0#32 Draws.free,
      .block ⟨some 65500#32, none⟩, .host 0x134#9 0#32 Draws.free] { transmitting with frameCounter := 5#64 },
    _, _, _, _, _, rfl, rfl, rfl, rfl, rfl, rfl, by decide +kernel, by decide +kernel, by decide +kernel⟩

theorem witness_CommandsOutsideIdleAreIgnored : awaiting.status.state ≠ .idle ∧ transmitting.status.state ≠ .idle ∧
    halted.status.state ≠ .idle := by decide

theorem witness_NopHasNoEffect : ready.status.state = .idle ∧ halted.status.state ≠ .idle := by decide

theorem witness_CtrlWriteRunsItsCommand : ready.status.state = .idle ∧ ReservedWord 3#32 := by
  unfold ReservedWord; decide

/-- V1, V6 and V18. -/
theorem witness_SolveReportsTheSolverResult : base.status.state = .idle ∧
    solveFn 36_000_000#32 1_000_000#32 75#32 = .config 2 13 4 ∧
    solveFn 25_000_000#32 1_000_000#32 50#32 = .noSolution ∧ ¬ InContract 36_000_000#32 1_000_000#32 100#32 ∧
    ¬ InContract 36_000_000#32 1_000_000#32 0#32 := by
  unfold InContract; decide +kernel

/-- Each check at its first bad value: K11, K12, K14, K16, K17. -/
theorem witness_StartRejectsBadArguments : ready.status.state = .idle ∧ ¬ StartChecksPass { ready with clkHz := 0#32 } ∧
    ¬ StartChecksPass { ready with frameId := 0x800#32 } ∧ ¬ StartChecksPass { ready with frameId := 0xA000_0000#32 } ∧
    ¬ StartChecksPass { ready with frameDlc := 9#32 } ∧ ¬ StartChecksPass { ready with interval := 32768#32 } := by
  unfold StartChecksPass InContract; decide

/-- Each check at its last good value, and the three ways on: K8 to K10, K13, K15, K18. -/
theorem witness_StartRunsTheStartUpSequence :
    StartChecksPass { ready with frameId := 0x7FF#32, interval := 32767#32, frameDlc := 8#32 } ∧
    StartChecksPass { ready with frameId := 0x9FFF_FFFF#32, spPct := 99#32 } ∧
    solveFn 36_000_000#32 1_000_000#32 75#32 = .config 2 13 4 ∧
    (StartChecksPass { ready with clkHz := 25_000_000#32, spPct := 50#32 } ∧
      solveFn 25_000_000#32 1_000_000#32 50#32 = .noSolution) ∧
    configureAnswer (drawing (some 0#32) (some .ok) ready) = .ok ∧
    configureAnswer (drawing none (some .err) ready) = .err := by
  unfold StartChecksPass InContract; decide +kernel

theorem witness_SolverRejectsExactlyOutsideItsContract : solveFn 1#32 1#32 100#32 = .badArg ∧
    ¬ InContract 1#32 1#32 100#32 ∧ InContract 1#32 1#32 99#32 ∧ InContract 1#32 1#32 1#32 := by
  unfold InContract; decide

/-- V5, the largest configuration there is. -/
theorem witness_SolverAnswersExactlyTheFirstFitSplit : solveFn 25_600#32 1#32 66#32 = .config 1024 16 8 ∧
    InContract 25_600#32 1#32 66#32 ∧ SplitValid 66 25 16 8 := by
  unfold InContract SplitValid; decide +kernel

/-- V6 and V13: a failed split and a failed search. -/
theorem witness_SolverFailsExactlyWithoutAFirstFitSplit : solveFn 25_000_000#32 1_000_000#32 50#32 = .noSolution ∧
    solveFn 36_000_000#32 7#32 75#32 = .noSolution ∧ InContract 36_000_000#32 7#32 75#32 := by
  unfold InContract; decide +kernel

theorem witness_SolvedSegmentsSumExactly : solveFn 36_000_000#32 1_000_000#32 75#32 = .config 2 13 4 ∧
    solveFn 25_600#32 1#32 66#32 = .config 1024 16 8 := by decide +kernel

theorem witness_SolvedPrescalerIsTheSmallest : solveFn 36_000_000#32 125_000#32 70#32 = .config 12 16 7 ∧
    Fits 36_000_000#32 125_000#32 12 ∧ Fits 36_000_000#32 125_000#32 24 := by
  unfold Fits; decide +kernel

theorem witness_FirstFitHasTheMostQuanta : solveFn 36_000_000#32 125_000#32 70#32 = .config 12 16 7 ∧
    Fits 36_000_000#32 125_000#32 288 := by
  unfold Fits; decide +kernel

theorem witness_EncodedConfigurationReadsBack : 1024 ≤ 1024 ∧ 16 ≤ 16 ∧ 8 ≤ 8 := by decide

theorem witness_WideDatapathMatchesTheSolver : 32 ≤ 32 ∧ 32 ≤ 64 := by decide

/-- The first and the last row, and both ends of the sample points. -/
theorem witness_SplitTableHolds : splitAt 25 1 3 = .config 1 1 1 ∧ splitAt 68 1 25 = .config 1 16 8 ∧
    splitAt 1 1 3 = .noSolution ∧ splitAt 99 1 25 = .noSolution := by decide

/-- T2 waits, T6 and T9 fire. -/
theorem witness_PollWaitsOrFires :
    (awaiting.status.state = .await ∧ awaiting.args.wf) ∧ (65500#32).toNat < 2 ^ awaiting.args.w ∧
    (((sampleCounter (pacing 65500#32 200#32 64#32)).toNat + 2 ^ 16 - 65500) % 2 ^ 16 = 100 ∧ 100 < (200#32).toNat) ∧
    (((sampleCounter (pacing 1000#32 200#32 1200#32)).toNat + 2 ^ 16 - 1000) % 2 ^ 16 = 200 ∧ (200#32).toNat ≤ 200) ∧
    ((sampleCounter (pacing 100#32 32767#32 99#32)).toNat + 2 ^ 16 - 100) % 2 ^ 16 = 65535 ∧
    ∃ f : Frame, f.identifier = awaiting.frameId.extractLsb' 0 31 ∧ f.isExtended = awaiting.frameId.getLsbD 31 ∧
      f.dataLength = awaiting.frameDlc ∧
      f.payload = payload awaiting.args.payloadOrder awaiting.frameCounter awaiting.frameDlc.toNat :=
  ⟨by decide, by decide, by decide, by decide, by decide, frameFor 0#64 awaiting, rfl, rfl, rfl, rfl⟩

theorem witness_TxdoneCountsOnlySuccess : transmitting.status.state = .transmit ∧
    transmitAnswer (answering 5#64 .ok) = .ok ∧ transmitAnswer (answering 5#64 .err) = .err := by decide

theorem witness_DisabledInternalStepsChangeNothing : base.status.state ≠ .await ∧ transmitting.status.state ≠ .await ∧
    base.status.state ≠ .transmit ∧ awaiting.status.state ≠ .transmit := by decide

theorem witness_ZeroIntervalAlwaysFires : (pacing 7#32 0#32 7#32).status.state = .await ∧
    (pacing 7#32 0#32 7#32).interval = 0#32 := by decide

/-- The narrowest and the widest counter, at the most ticks. -/
theorem witness_ElapsedIsTheTrueTickCount : (2 ≤ 2 ∧ 2 ≤ 32 ∧ 3 < 2 ^ 2) ∧ 2 ≤ 32 ∧ 32 ≤ 32 ∧ 4294967295 < 2 ^ 32 := by
  decide

/-- The gap at its bound: INTERVAL 200, the last early sample at 199 ticks, the next at 65535. -/
theorem witness_PollingGapBoundSuffices : ∃ s : State, s.status.state = .await ∧ s.args.wf ∧
    s.lastTick = BitVec.ofNat 32 (65500 % 2 ^ s.args.w) ∧ 199 < s.interval.toNat ∧ 65535 ≤ 199 + 65336 ∧
    65336 + s.interval.toNat ≤ 2 ^ s.args.w ∧ s.interval.toNat ≤ 65535 ∧
    sampleCounter s = BitVec.ofNat 32 ((65500 + 65535) % 2 ^ s.args.w) :=
  ⟨pacing 65500#32 200#32 65499#32, by decide⟩

theorem witness_PayloadCarriesTheLowBytes : 0 ≤ 8 ∧ 8 ≤ 8 := by decide

theorem witness_BackToBackTransmission : (pacing 7#32 0#32 7#32).status.state = .await ∧
    (pacing 7#32 0#32 7#32).interval = 0#32 ∧ (pacing 7#32 0#32 7#32).turns = [] := by decide

theorem witness_StepKeepsTheInvariants : (Inv awaiting ∧ ∃ t, step awaiting = .next t) ∧
    (Inv transmitting ∧ ∃ t, step transmitting = .next t) ∧ Inv halted ∧ ∃ t, step halted = .next t :=
  ⟨⟨awaiting_inv, _, rfl⟩, ⟨transmitting_inv, _, rfl⟩, halted_inv, _, rfl⟩

theorem witness_EventTraceFollowsTheProtocol : (FollowsProtocol awaiting ∧ ∃ t, step awaiting = .next t) ∧
    (FollowsProtocol transmitting ∧ ∃ t, step transmitting = .next t) ∧ FollowsProtocol halted :=
  ⟨⟨⟨.ready, rfl, rfl⟩, _, rfl⟩, ⟨⟨.outstanding, rfl, rfl⟩, _, rfl⟩, .initialised, rfl, rfl⟩

theorem witness_CounterCountsConfirmedTransmissions : CountsConfirmed awaiting ∧ CountsConfirmed transmitting ∧
    awaiting.running ∧ ∃ t, step transmitting = .next t :=
  ⟨fun _ => rfl, fun _ => rfl, .inl rfl, _, rfl⟩

theorem witness_FramesCarryTheConfirmedCount : CountsConfirmed transmitting ∧ FramesNumbered transmitting ∧
    ∃ t, step transmitting = .next t := by
  refine ⟨fun _ => rfl, ?_, _, rfl⟩
  intro pre f post h
  rcases pre with _ | ⟨e0, _ | ⟨e1, _ | ⟨e2, _ | ⟨e3, _ | ⟨e4, pre⟩⟩⟩⟩⟩ <;>
    simp only [transmitting, awaiting, List.cons_append, List.nil_append, List.cons.injEq, reduceCtorEq, false_and,
      and_false] at h
  obtain ⟨rfl, rfl, rfl, rfl, rfl, h⟩ := h
  rcases pre with _ | ⟨e5, pre⟩
  · simp only [List.nil_append, List.cons.injEq, Event.hpiTransmitReq.injEq] at h
    obtain ⟨rfl, -⟩ := h
    rfl
  · simp only [List.cons_append, List.cons.injEq] at h
    exact absurd h.2 (by simp)

theorem witness_ControlStateTransitions : (∃ t, step (bus 0x140#9 2#32 ready) = .next t) ∧
    (∃ t, step awaiting = .next t) ∧ (∃ t, step transmitting = .next t) ∧
    ∃ t, step (next [.reset] halted) = .next t :=
  ⟨⟨_, rfl⟩, ⟨_, rfl⟩, ⟨_, rfl⟩, _, rfl⟩

theorem witness_HaltedIsPermanent : halted.status.state = .halted ∧ halted.status.dbg = false ∧
    (∃ t, step (bus 0x140#9 2#32 halted) = .next t) ∧ nextTurn (bus 0x140#9 2#32 halted) ≠ .reset :=
  ⟨rfl, rfl, ⟨_, rfl⟩, by decide⟩

theorem witness_ConfigurationIsFrozenOutsideIdle : awaiting.status.state ≠ .idle ∧
    (∃ t, step (bus 0x154#9 5#32 awaiting) = .next t) ∧ nextTurn (bus 0x154#9 5#32 awaiting) ≠ .reset :=
  ⟨by decide, ⟨_, rfl⟩, by decide⟩

theorem witness_WriteIgnoredFlagIsSticky : (∃ t, step (next [.reset] awaiting) = .next t) ∧
    (∃ t, step (bus 0x154#9 5#32 awaiting) = .next t) ∧ nextTurn (bus 0x154#9 5#32 awaiting) ≠ .reset ∧
    0x154#9 ∈ writeHeaders := ⟨⟨_, rfl⟩, ⟨_, rfl⟩, by decide, by decide⟩

theorem witness_FaultFlagIsSticky : (∃ t, step (next [.reset] halted) = .next t) ∧
    (∃ t, step (bus 0x140#9 3#32 base) = .next t) ∧ nextTurn (bus 0x140#9 3#32 base) ≠ .reset :=
  ⟨⟨_, rfl⟩, ⟨_, rfl⟩, by decide⟩

theorem witness_FrameCounterAdvancesOnConfirmationOnly :
    (∃ t, step (next [.block ⟨none, some .ok⟩] transmitting) = .next t) ∧ transmitting.status.state = .transmit ∧
    (∃ d, nextTurn (next [.block ⟨none, some .ok⟩] transmitting) = .block d) ∧
    transmitAnswer (takeTurn (next [.block ⟨none, some .ok⟩] transmitting)) = .ok := ⟨⟨_, rfl⟩, rfl, ⟨_, rfl⟩, rfl⟩

theorem witness_AccessMatrixHolds : (∃ t, exec .rdBtc awaiting = .next t) ∧ (∃ t, exec (.wrCtrl 3#32) base = .next t) ∧
    ∃ t, exec .poll awaiting = .next t := ⟨⟨_, rfl⟩, ⟨_, rfl⟩, _, rfl⟩

/-- Two states that differ in WIGN alone, and the STATUS read that tells them apart. -/
theorem witness_FlagsAreNeverRead : ∃ s t s' t', SameButFlags s t ∧ s ≠ t ∧ step s = .next s' ∧ step t = .next t' :=
  ⟨bus 0x104#9 0#32 awaiting, bus 0x104#9 0#32 awaiting.setWign, _, _, rfl, by
    intro h; exact absurd (congrArg (·.status.wign) h) (by decide), rfl, rfl⟩

theorem witness_RunningBtcDescribesTheClock : Inv transmitting ∧ transmitting.running := ⟨transmitting_inv, .inr rfl⟩

end Sys2Proof.Tests
end

section
/-! O43: every step keeps the invariants, from one rule per operation. -/

namespace Sys2Proof.Machine

/-! ## What the solver's answer means for BTC -/

/-- A configuration the solver answers is legal and gives the clock exactly (R38, R39, R143 to R151). -/
theorem solveFn_config_spec {clk br sp : Word} {p a b : Nat} (h : solveFn clk br sp = .config p a b) :
    (1 ≤ p ∧ p ≤ 1024) ∧ (1 ≤ a ∧ a ≤ 16) ∧ (1 ≤ b ∧ b ≤ 8) ∧ 1 + a + b ≤ 25 ∧
      clk.toNat = p * (1 + a + b) * br.toNat := by
  rcases solveFn_cases clk br sp with ⟨-, hc⟩ | ⟨-, -, hc⟩ | ⟨q, -, hfit, hc⟩ <;> rw [hc] at h
  · cases h
  · cases h
  · obtain ⟨rfl, -, hb, ha1, ha2, hb1, hb2⟩ := (splitAt_eq_config_iff ..).mp h
    obtain ⟨hp1, hp2, hq, -⟩ := (firstFit_eq_some_iff ..).mp hfit
    obtain ⟨hclk, hscaled, htq⟩ := (candidateFits_iff ..).mp hq
    have hsum : 1 + a + b = clk.toNat / p / br.toNat := by omega
    refine ⟨⟨hp1, hp2⟩, ⟨ha1, ha2⟩, ⟨hb1, hb2⟩, hsum ▸ htq, ?_⟩
    rw [hsum, Nat.mul_assoc, Nat.div_mul_cancel (Nat.dvd_of_mod_eq_zero hscaled),
      Nat.mul_div_cancel' (Nat.dvd_of_mod_eq_zero hclk)]

/-- The encoding of a configuration the solver answers is legal (R38, R39). -/
theorem btcLegal_of_solveFn {clk br sp : Word} {p a b : Nat} (h : solveFn clk br sp = .config p a b) :
    BtcLegal (encBtc (.config p a b)) := by
  obtain ⟨⟨hp1, hp2⟩, ⟨ha1, ha2⟩, ⟨hb1, hb2⟩, hq, -⟩ := solveFn_config_spec h
  exact ⟨p, a, b, hp1, hp2, ha1, ha2, hb1, hb2, hq, rfl⟩

/-- A solved BTC is legal. -/
theorem BtcIsSolved.legal {s : State} (h : BtcIsSolved s) : BtcLegal s.btc := by
  obtain ⟨p, a, b, hsolve, hbtc⟩ := h
  exact hbtc ▸ btcLegal_of_solveFn hsolve

/-! ## The invariants, one rule per operation -/

/-- The invariants do not read WIGN, the trace, the ports or the turns. -/
theorem Inv.frame {s : State} (h : Inv s) (wign : Bool) (trace : List Event) (ports : Ports) (turns : List Turn) :
    Inv { s with status := { s.status with wign := wign }, trace := trace, ports := ports, turns := turns } :=
  { h with }

theorem Inv.takeTurn {s : State} (h : Inv s) : Inv (takeTurn s) := h.frame ..

theorem Inv.emit {s : State} (h : Inv s) (e : Event) : Inv (s.emit e) := h.frame ..

theorem Inv.setWign {s : State} (h : Inv s) : Inv s.setWign := h.frame ..

/-- A block that is not running holds no frame (R56). -/
theorem Inv.pending_none {s : State} (h : Inv s) (hs : s.status.state ≠ .transmit) : s.pending = none := by
  cases hp : s.pending with
  | none => rfl
  | some f => exact absurd (h.pending_iff_transmit.mp (by rw [hp]; rfl)) hs

/-- A configuration register stored in IDLE: no invariant of an idle block reads one. -/
theorem Inv.setConfig {s : State} (h : Inv s) (hs : s.status.state = .idle) (r : ConfigReg) (v : Word) :
    Inv (setConfig r v s) := by
  have hp := h.pending_none (by simp [hs])
  cases r <;> exact
    { h with
      pending_is_frame := by simp [hp]
      running_btc := by simp [State.running, hs]
      running_checked := by simp [State.running, hs]
      halted_cause := by simp [hs] }

/-- A command that ends in IDLE with a RESULT that says what BTC holds (R263, R50). -/
theorem Inv.report {s : State} (h : Inv s) (hs : s.status.state = .idle) {c : ResultCode} {b : Word}
    (hc : c ≠ .configRejected) (hlegal : b = 0#32 ∨ BtcLegal b) (hok : c = .ok → BtcLegal b)
    (hzero : c = .none ∨ c = .noSolution ∨ c = .badArg → b = 0#32) :
    Inv (State.raiseResult c { s with btc := b }) :=
  { h with
    running_result := by simp [State.running, hs]
    running_btc := by simp [State.running, hs]
    running_checked := by simp [State.running, hs]
    halted_cause := by simp [hs]
    rejected_halts := fun h => absurd h hc
    btc_legal := hlegal
    result_ok := hok
    result_zero := hzero
    host_error_fault := by simp +contextual }

/-- A START that halts, with its cause in RESULT and BTC (R209, R210). -/
theorem Inv.halt {s : State} (h : Inv s) (hs : s.status.state = .idle) {c : ResultCode} {b : Word}
    (tr : List Event)
    (hcause : (c = .noSolution ∧ b = 0#32) ∨ (c = .configRejected ∧ BtcIsSolved { s with btc := b })) :
    Inv (State.halt c { s with btc := b, trace := tr }) := by
  have hlegal : b = 0#32 ∨ BtcLegal b := hcause.imp And.right fun ⟨_, hb⟩ => hb.legal
  have hidle := h.unstarted_schedule (.inl hs)
  have hdbg : s.status.dbg = false := by simpa [hs] using h.dbg_iff_transmit
  have hp := h.pending_none (by simp [hs])
  exact
  { h with
    dbg_iff_transmit := by simp [hdbg]
    pending_iff_transmit := by simp [hp]
    running_result := by simp [State.running]
    running_btc := by simp [State.running]
    running_checked := by simp [State.running]
    halted_cause := fun _ => hcause
    rejected_halts := fun _ => rfl
    btc_legal := hlegal
    result_ok := by rcases hcause with ⟨rfl, -⟩ | ⟨rfl, -⟩ <;> simp
    result_zero := by
      rcases hcause with ⟨rfl, hb⟩ | ⟨rfl, -⟩
      · exact fun _ => hb
      · simp
    host_error_fault := by rcases hcause with ⟨rfl, -⟩ | ⟨rfl, -⟩ <;> simp [ResultCode.isHostError]
    unstarted_schedule := fun _ => hidle }

/-- A START that succeeds enters AWAIT with what it checked and solved (R211). -/
theorem Inv.startSchedule {s : State} (h : Inv s) (hs : s.status.state = .idle) {b : Word} (tr : List Event)
    (hchecked : startArgsBad s = false) (hsolved : BtcIsSolved { s with btc := b }) :
    Inv (startSchedule { s with btc := b, trace := tr }) := by
  have hdbg : s.status.dbg = false := by simpa [hs] using h.dbg_iff_transmit
  have hp := h.pending_none (by simp [hs])
  exact
  { h with
    ticks_fit := ⟨sampleCounter_lt _, sampleCounter_lt _, Nat.two_pow_pos _⟩
    dbg_iff_transmit := by simp [hdbg]
    pending_iff_transmit := by simp [hp]
    pending_is_frame := by simp [hp]
    running_result := fun _ => rfl
    running_btc := fun _ => hsolved
    running_checked := fun _ => hchecked
    halted_cause := by simp
    rejected_halts := by simp
    btc_legal := .inr hsolved.legal
    result_ok := fun _ => hsolved.legal
    result_zero := by simp
    host_error_fault := by simp [ResultCode.isHostError]
    unstarted_schedule := by simp [State.unstarted] }

/-- SOLVE's report agrees with BTC, whatever the solver answers (R203). -/
theorem Inv.solveCmd {s : State} (h : Inv s) (hs : s.status.state = .idle) : Inv (solveCmd s) := by
  unfold Machine.solveCmd
  cases hr : solveFn s.clkHz s.bitrateHz s.spPct with
  | config p a b =>
    have hlegal := btcLegal_of_solveFn hr
    exact h.report hs (by simp [solveCode]) (.inr hlegal) (fun _ => hlegal) (by simp [solveCode])
  | noSolution | badArg =>
    exact h.report hs (by simp [solveCode]) (.inl rfl) (by simp [solveCode]) fun _ => rfl

/-- Every command in IDLE keeps the invariants. -/
theorem Inv.runCommand {s : State} (h : Inv s) (hs : s.status.state = .idle) (c : Command) :
    Inv (runCommand c s) := by
  rcases runCommand_outcomes c s with ⟨-, hr⟩ | ⟨-, hr⟩ | ⟨-, -, hr⟩ | ⟨-, -, -, hr⟩ |
    ⟨p, a, b, -, -, hsolve, -, hr⟩ | ⟨p, a, b, -, hgood, hsolve, -, hr⟩ | ⟨-, hr⟩ <;> rw [hr]
  · exact h
  · exact h.solveCmd hs
  · exact h.report hs (by simp) (.inl rfl) (by simp) fun _ => rfl
  · exact h.halt hs _ (.inl ⟨rfl, rfl⟩)
  · exact h.halt hs _ (.inr ⟨rfl, p, a, b, hsolve, rfl⟩)
  · exact h.startSchedule hs _ hgood ⟨p, a, b, hsolve, rfl⟩
  · exact h.report hs (by simp) h.btc_legal (by simp) (by simp)

/-- A POLL's sample and elapsed ticks are W-bit values (R41, R42, R172). -/
theorem Inv.pollSample {s : State} (h : Inv s) (hs : s.status.state = .await) : Inv (pollSample s) :=
  { h with
    ticks_fit := have ⟨hlast, _⟩ := h.ticks_fit; ⟨hlast, sampleCounter_lt s, elapsedTicks_lt ..⟩
    unstarted_schedule := by simp [State.unstarted, hs] }

/-- A firing POLL sets PENDING and DBG as it enters TRANSMIT (R174 to R179). -/
theorem Inv.pollFire {s : State} (h : Inv s) (hs : s.status.state = .await) : Inv (pollFire s) :=
  { h with
    ticks_fit := have ⟨_, hnow, helapsed⟩ := h.ticks_fit; ⟨hnow, hnow, helapsed⟩
    dbg_iff_transmit := by simp
    pending_iff_transmit := by simp
    pending_is_frame := fun f hf => (Option.some.inj hf).symm
    running_result := fun _ => h.running_result (.inl hs)
    running_btc := fun _ => h.running_btc (.inl hs)
    running_checked := fun _ => h.running_checked (.inl hs)
    halted_cause := by simp
    rejected_halts := by simp [h.running_result (.inl hs)]
    unstarted_schedule := by simp [State.unstarted] }

/-- TXDONE clears PENDING and DBG as it returns to AWAIT (R180 to R184). -/
theorem Inv.txdoneEffect {s : State} (h : Inv s) (hs : s.status.state = .transmit) : Inv (txdoneEffect s) :=
  { h with
    dbg_iff_transmit := by simp
    pending_iff_transmit := by simp
    pending_is_frame := by simp
    running_result := fun _ => h.running_result (.inr hs)
    running_btc := fun _ => h.running_btc (.inr hs)
    running_checked := fun _ => h.running_checked (.inr hs)
    halted_cause := by simp
    rejected_halts := by simp [h.running_result (.inr hs)]
    unstarted_schedule := by simp [State.unstarted] }

/-- Reset needs no invariant but the range of W (R300). -/
theorem Inv.resetBlock {s : State} (h : Inv s) : Inv (resetBlock s) where
  args_wf := h.args_wf
  ticks_fit := by simp
  dbg_iff_transmit := by simp [Status.reset]
  pending_iff_transmit := by simp [Status.reset]
  pending_is_frame := by simp
  running_result := by simp [State.running, Status.reset]
  running_btc := by simp [State.running, Status.reset]
  running_checked := by simp [State.running, Status.reset]
  halted_cause := by simp [Status.reset]
  rejected_halts := by simp [Status.reset]
  btc_legal := .inl rfl
  result_ok := by simp [Status.reset]
  result_zero := fun _ => rfl
  host_error_fault := by simp [Status.reset, ResultCode.isHostError]
  unstarted_schedule := fun _ => ⟨rfl, rfl, rfl, rfl⟩

/-- Settles O43, by the branches of a step: one rule above for each operation. -/
theorem stepKeepsTheInvariants : Obligations.StepKeepsTheInvariants := by
  intro s t h hstep
  rcases step_outcomes hstep with ⟨v, d, -, hs, rfl⟩ | ⟨c, v, d, -, hs, rfl⟩ | ⟨r, v, d, -, -, -, rfl⟩ |
    ⟨c, v, d, -, rfl⟩ | ⟨hdr, v, d, e, -, -, rfl⟩ | ⟨d, -, hs, -, rfl⟩ | ⟨d, -, hs, -, rfl⟩ | ⟨d, -, hs, rfl⟩ |
    ⟨d, -, -, rfl⟩ | ⟨-, rfl⟩
  · exact (h.takeTurn.emit _).runCommand hs _
  · exact (h.takeTurn.emit _).setConfig hs c v
  · exact (h.takeTurn.emit _).setWign
  · exact h.takeTurn.emit _
  · exact h.takeTurn.emit _
  · exact h.takeTurn.pollSample hs
  · exact (h.takeTurn.pollSample hs).pollFire hs
  · exact h.takeTurn.txdoneEffect hs
  · exact h.takeTurn
  · exact h.takeTurn.resetBlock

end Sys2Proof.Machine
end

section
/-! O54: a step is the effect of its turn, and no effect sees the flags or the trace but through a read of STATUS. -/

namespace Sys2Proof.Machine

/-! ## Which registers an operation and a turn reach -/

/-- The operations by what they share: a configuration write, a command, a read, or one of the internal steps. -/
inductive OpKind where
  | write (r : ConfigReg) (v : Word)
  | command (c : Command)
  | read (r : ReadReg)
  | poll
  | txdone

/-- The kind of an operation. -/
def opKind : Instr → OpKind
  | .wrCtrl cw => .command (decodeCmd cw)
  | .wrClkHz v => .write .clkHz v
  | .wrBitrateHz v => .write .bitrateHz v
  | .wrSpPct v => .write .spPct v
  | .wrInterval v => .write .interval v
  | .wrFrameId v => .write .frameId v
  | .wrFrameDlc v => .write .frameDlc v
  | .rdStatus => .read .status
  | .rdClkHz => .read (.config .clkHz)
  | .rdBitrateHz => .read (.config .bitrateHz)
  | .rdSpPct => .read (.config .spPct)
  | .rdInterval => .read (.config .interval)
  | .rdFrameId => .read (.config .frameId)
  | .rdFrameDlc => .read (.config .frameDlc)
  | .rdBtc => .read .btc
  | .rdLastTick => .read .lastTick
  | .rdNow => .read .now
  | .rdElapsed => .read .elapsed
  | .rdFcLo => .read .fcLo
  | .rdFcHi => .read .fcHi
  | .nop => .command .nop
  | .solve => .command .solve
  | .start => .command .start
  | .poll => .poll
  | .txdone => .txdone

/-- What an operation of a kind does to the state. -/
def OpKind.effect : OpKind → State → State
  | .write r v => writeConfig r v
  | .command c => gatedWrite .ctrl (runCommand c)
  | .read r => readReg r
  | .poll => whenEnabled .await pollEffect
  | .txdone => whenEnabled .transmit txdoneEffect

/-- Every operation answers the effect of its kind. -/
theorem exec_eq_effect (i : Instr) (s : State) : exec i s = .next ((opKind i).effect s) := by
  cases i <;> rfl

/-- The kind is a configuration write. -/
def OpKind.isWrite : OpKind → Bool
  | .write _ _ => true
  | .command _ | .read _ | .poll | .txdone => false

/-- The command the kind carries, if it is a CTRL write. -/
def OpKind.command? : OpKind → Option Command
  | .command c => some c
  | .write _ _ | .read _ | .poll | .txdone => none

theorem isConfigWrite_eq_isWrite (i : Instr) : isConfigWrite i = (opKind i).isWrite := by cases i <;> rfl

theorem commandOf_eq_command? (i : Instr) : commandOf i = (opKind i).command? := by cases i <;> rfl

theorem eq_poll_iff_opKind (i : Instr) : i = .poll ↔ opKind i = .poll := by cases i <;> simp [opKind]

theorem eq_txdone_iff_opKind (i : Instr) : i = .txdone ↔ opKind i = .txdone := by cases i <;> simp [opKind]

/-- What a host transaction does: the effect of what it decodes to, or a bus error (R118, R262). -/
def hostEffect (hdr : Header) (data : Word) : State → State :=
  match decodeBus hdr data with
  | .ok i => (opKind i).effect
  | .error _ => busError hdr

/-- What a move of the block does in a control state (R116, R189). -/
def blockEffect : BlockState → State → State
  | .await => pollEffect
  | .transmit => txdoneEffect
  | .idle | .halted => id

/-- What a turn does in a control state, once its draws stand at the ports. -/
def turnEffect (b : BlockState) : Turn → State → State
  | .host hdr data _ => hostEffect hdr data
  | .block _ => blockEffect b
  | .reset => resetBlock

/-- A step is the effect of its turn: nothing but the turn and STATE selects it (R84, R116). -/
theorem step_eq_turnEffect (s : State) :
    step s = .next (turnEffect s.status.state (nextTurn s) (takeTurn s)) := by
  unfold step fetch
  cases nextTurn s with
  | host hdr data d =>
    cases hd : decodeBus hdr data <;> simp [hostTurn, turnEffect, hostEffect, hd, exec_eq_effect]
  | block d =>
    rcases blockTurn_cases (takeTurn s) with ⟨hs, hb⟩ | ⟨hs, hb⟩ | ⟨hs | hs, hb⟩ <;> rw [takeTurn_status] at hs <;>
      simp [hb, hs, turnEffect, blockEffect, exec_eq_effect, opKind, OpKind.effect, whenEnabled]
  | reset => rfl

/-! ## Two states that differ in flags and trace -/

/-- Two events that are equal, but for the value a read of STATUS returns. -/
def AlikeEvents (e f : Event) : Prop :=
  e = f ∨ ∃ v v', e = .busResp 0x104#9 v .okay ∧ f = .busResp 0x104#9 v' .okay

/-- Two states that agree but for WIGN, FAULT and DBG, and whose traces have grown from `tr` and `tr'` alike. -/
def Alike (tr tr' : List Event) (s t : State) : Prop :=
  SameButFlags s t ∧ ∃ es fs, s.trace = tr ++ es ∧ t.trace = tr' ++ fs ∧ List.Forall₂ AlikeEvents es fs

/-- A change of the state that cannot see the flags or the trace, but through a read of STATUS. -/
def Blind (f : State → State) : Prop := ∀ tr tr' s t, Alike tr tr' s t → Alike tr tr' (f s) (f t)

/-- The state with other flags and another trace: the general form of a state that differs in those alone. -/
def State.reflag (d w f : Bool) (tr : List Event) (s : State) : State :=
  { s with status := { s.status with dbg := d, wign := w, fault := f }, trace := tr }

theorem sameButFlags_iff (s t : State) : SameButFlags s t ↔ ∃ d w f tr, t = s.reflag d w f tr := by
  constructor
  · exact fun h => ⟨_, _, _, _, h⟩
  · rintro ⟨d, w, f, tr, rfl⟩; rfl

/-- A change that emits nothing and carries flags and trace through is blind. For a record update both hold by
computation, and are then filled in. -/
theorem blind_of_silent {g : State → State}
    (hg : ∀ d w f tr s, ∃ d' w' f', g (s.reflag d w f tr) = (g s).reflag d' w' f' tr :=
      by exact fun _ _ _ _ _ => ⟨_, _, _, rfl⟩)
    (htr : ∀ s, (g s).trace = s.trace := by exact fun _ => rfl) : Blind g := by
  rintro tr tr' s t ⟨hst, es, fs, hs, ht, hef⟩
  refine ⟨?_, es, fs, (htr s).trans hs, (htr t).trans ht, hef⟩
  obtain ⟨d, w, f, u, rfl⟩ := (sameButFlags_iff s t).mp hst
  obtain ⟨d', w', f', hg⟩ := hg d w f u s
  exact (sameButFlags_iff ..).mpr ⟨d', w', f', u, hg⟩

/-- An emission of alike events is blind. -/
theorem blind_emit_of_alike {e : State → Event} (he : ∀ s t, SameButFlags s t → AlikeEvents (e s) (e t)) :
    Blind fun s => s.emit (e s) := by
  rintro tr tr' s t ⟨hst, es, fs, hs, ht, hef⟩
  refine ⟨?_, es ++ [e s], fs ++ [e t], by simp [hs], by simp [ht], ?_⟩
  · obtain ⟨d, w, f, u, rfl⟩ := (sameButFlags_iff s t).mp hst
    exact (sameButFlags_iff ..).mpr ⟨d, w, f, _, rfl⟩
  · exact List.rel_append hef (.cons (he s t hst) .nil)

theorem blind_emit (e : Event) : Blind (State.emit e) := blind_emit_of_alike fun _ _ _ => .inl rfl

theorem Blind.comp {f g : State → State} (hg : Blind g) (hf : Blind f) : Blind fun s => g (f s) :=
  fun tr tr' s t h => hg tr tr' _ _ (hf tr tr' s t h)

/-- A change that some reading of the state directs is blind when the reading does not see flags or trace, and each of
its values directs to a blind change. -/
theorem Blind.choose {α : Type} {g : State → State} (p : State → α) (hp : ∀ s t, SameButFlags s t → p t = p s)
    (hg : ∀ a, ∃ f, Blind f ∧ ∀ s, p s = a → g s = f s) : Blind g := by
  intro tr tr' s t h
  obtain ⟨f, hf, hfg⟩ := hg (p s)
  rw [hfg s rfl, hfg t (hp s t h.1)]
  exact hf tr tr' s t h

theorem SameButFlags.state_eq {s t : State} (h : SameButFlags s t) : t.status.state = s.status.state := by
  rw [h]

theorem SameButFlags.configureAnswer_eq {s t : State} (h : SameButFlags s t) :
    configureAnswer t = configureAnswer s := by
  rw [h]; rfl

/-! ## Every operation is blind -/

theorem blind_id : Blind id := fun _ _ _ _ h => h

theorem blind_setWign : Blind State.setWign := blind_of_silent

theorem blind_setConfig (r : ConfigReg) (v : Word) : Blind (setConfig r v) := by
  cases r <;> exact blind_of_silent

theorem blind_solveCmd : Blind solveCmd := blind_of_silent

theorem blind_rejectArg : Blind rejectArg := blind_of_silent

theorem blind_reservedCmd : Blind reservedCmd := blind_of_silent

theorem blind_halt (c : ResultCode) : Blind (State.halt c) := blind_of_silent

theorem blind_setBtc (b : Word) : Blind fun s => { s with btc := b } :=
  blind_of_silent

theorem blind_startSchedule : Blind startSchedule := blind_of_silent

theorem blind_pollSample : Blind pollSample := blind_of_silent

theorem blind_takeTurn : Blind takeTurn := blind_of_silent

/-- Reset is its register values, then its event. -/
theorem blind_resetBlock : Blind resetBlock :=
  (blind_emit .reset).comp blind_of_silent

/-- A firing POLL's frame is of the counter and the frame registers. -/
theorem blind_pollFire : Blind pollFire := by
  have hreq : Blind fun s => s.emit (.hpiTransmitReq (frameFor s.frameCounter s)) :=
    blind_emit_of_alike fun s t h => .inl (by rw [h]; rfl)
  have hset : Blind fun s =>
      ({ s with lastTick := s.now, pending := some (frameFor s.frameCounter s) } : State).setDbg true :=
    blind_of_silent
  have hstate : Blind (State.setState .transmit) := blind_of_silent
  exact hstate.comp (hreq.comp ((blind_emit .dbgRise).comp hset))

/-- TXDONE's answer is the port's. -/
theorem blind_txdoneEffect : Blind txdoneEffect := by
  have hans : Blind fun s => s.emit (.hpiTransmitAns (transmitAnswer s)) :=
    blind_emit_of_alike fun s t h => .inl (by rw [h]; rfl)
  have hdbg : Blind (State.setDbg false) := blind_of_silent
  have hcount : Blind fun s => State.setState .await
      { s with frameCounter := countAnswer (transmitAnswer s) s.frameCounter, pending := none } :=
    blind_of_silent
  exact hcount.comp ((blind_emit .dbgFall).comp (hdbg.comp hans))

/-- A read returns what flags and trace do not touch, but for STATUS (R227 to R239). -/
theorem blind_readReg (r : ReadReg) : Blind (readReg r) := by
  refine blind_emit_of_alike fun s t h => ?_
  rw [h]
  cases r with
  | status => exact .inr ⟨_, _, rfl, rfl⟩
  | config c => cases c <;> exact .inl rfl
  | _ => exact .inl rfl

theorem blind_gatedWrite (r : RegName) {f : State → State} (hf : Blind f) : Blind (gatedWrite r f) := by
  refine Blind.choose (·.status.state) (fun _ _ => SameButFlags.state_eq) fun b => ?_
  by_cases hb : b = .idle
  · exact ⟨_, hf.comp (blind_emit _), fun s hs => gatedWrite_idle (hs.trans hb) r f⟩
  · exact ⟨_, blind_setWign.comp (blind_emit _), fun s hs => gatedWrite_ignored (hs ▸ hb) r f⟩

theorem blind_whenEnabled (b : BlockState) {f : State → State} (hf : Blind f) : Blind (whenEnabled b f) := by
  refine Blind.choose (·.status.state) (fun _ _ => SameButFlags.state_eq) fun b' => ?_
  by_cases hb : b' = b
  · exact ⟨_, hf, fun s hs => whenEnabled_enabled (hs.trans hb) f⟩
  · exact ⟨_, blind_id, fun s hs => whenEnabled_disabled (hs ▸ hb) f⟩

theorem blind_pollEffect : Blind pollEffect := by
  refine Blind.choose (fun s => (pollSample s).elapsed < s.interval) (fun s t h => by rw [h]; rfl) fun waits => ?_
  by_cases hw : waits
  · exact ⟨_, blind_pollSample, fun s hs => if_pos (hs ▸ hw)⟩
  · exact ⟨_, blind_pollFire.comp blind_pollSample, fun s hs => if_neg (hs ▸ hw)⟩

/-- The configure handshake goes on by the port's answer. -/
theorem blind_startConfigure (p a b : Nat) : Blind (startConfigure p a b) := by
  refine Blind.choose configureAnswer (fun _ _ => SameButFlags.configureAnswer_eq) fun ans => ?_
  have hemit : Blind fun s => (s.emit (.hpiConfigureReq p a b)).emit (.hpiConfigureAns ans) :=
    (blind_emit _).comp (blind_emit _)
  cases ans with
  | ok => exact ⟨_, blind_startSchedule.comp hemit, fun s hs => by simp [startConfigure, hs]⟩
  | err => exact ⟨_, (blind_halt .configRejected).comp hemit, fun s hs => by simp [startConfigure, hs]⟩

/-- START goes on by its argument checks and the solver's answer. -/
theorem blind_startCmd : Blind startCmd := by
  refine Blind.choose (fun s => (startArgsBad s, solveFn s.clkHz s.bitrateHz s.spPct))
    (fun s t h => by rw [h]; rfl) fun ⟨bad, r⟩ => ?_
  cases bad with
  | true => exact ⟨_, blind_rejectArg, fun s hs => by simp_all [startCmd]⟩
  | false =>
    cases r with
    | badArg => exact ⟨_, blind_rejectArg.comp (blind_emit .hpiInit), fun s hs => by simp_all [startCmd]⟩
    | noSolution =>
      exact ⟨_, (blind_halt .noSolution).comp ((blind_setBtc 0#32).comp (blind_emit .hpiInit)),
        fun s hs => by simp_all [startCmd]⟩
    | config p a b =>
      exact ⟨_, (blind_startConfigure p a b).comp
        ((blind_setBtc (encBtc (.config p a b))).comp (blind_emit .hpiInit)), fun s hs => by simp_all [startCmd]⟩

theorem blind_runCommand (c : Command) : Blind (runCommand c) := by
  cases c with
  | nop => exact blind_id
  | solve => exact blind_solveCmd
  | start => exact blind_startCmd
  | reserved => exact blind_reservedCmd

theorem blind_effect (k : OpKind) : Blind k.effect := by
  cases k with
  | write r v => exact blind_gatedWrite r.reg (blind_setConfig r v)
  | command c => exact blind_gatedWrite .ctrl (blind_runCommand c)
  | read r => exact blind_readReg r
  | poll => exact blind_whenEnabled .await blind_pollEffect
  | txdone => exact blind_whenEnabled .transmit blind_txdoneEffect

theorem blind_hostEffect (hdr : Header) (data : Word) : Blind (hostEffect hdr data) := by
  unfold hostEffect
  cases decodeBus hdr data with
  | ok i => exact blind_effect (opKind i)
  | error e => exact blind_emit _

theorem blind_turnEffect (b : BlockState) (n : Turn) : Blind (turnEffect b n) := by
  cases n with
  | host hdr data d => exact blind_hostEffect hdr data
  | block d =>
    cases b with
    | await => exact blind_pollEffect
    | transmit => exact blind_txdoneEffect
    | idle | halted => exact blind_id
  | reset => exact blind_resetBlock

/-- Settles O54: the turn and STATE, which the two states share, direct both to the same blind effect. -/
theorem flagsAreNeverRead : Obligations.FlagsAreNeverRead := by
  intro s t s' t' hst hs ht
  have hturn : nextTurn t = nextTurn s := by rw [hst]; rfl
  rw [step_eq_turnEffect, Host.Outcome.next.injEq] at hs ht
  rw [hturn, hst.state_eq] at ht
  have hstart : Alike s.trace t.trace s t := ⟨hst, [], [], by simp, by simp, .nil⟩
  obtain ⟨hsame, es, fs, hes, hfs, halike⟩ :=
    ((blind_turnEffect s.status.state (nextTurn s)).comp blind_takeTurn) _ _ s t hstart
  subst hs ht
  refine ⟨hsame, es, fs, hes, hfs, halike.length_eq, fun k e f he hf => ?_⟩
  obtain ⟨hk, rfl⟩ := List.getElem?_eq_some_iff.mp he
  obtain ⟨hk', rfl⟩ := List.getElem?_eq_some_iff.mp hf
  exact halike.get hk hk'

end Sys2Proof.Machine
end

section
/-! O47, O49, O50, O51, O53 and O55: what a single operation or step may change, and what BTC says. -/

namespace Sys2Proof.Machine

/-! ## Headers and command words -/

/-- The write headers are those of the registers a host may write (R113). -/
theorem mem_writeHeaders_iff (hdr : Header) : hdr ∈ writeHeaders ↔ ∃ r, isWritable r = true ∧ hdr = writeHeader r := by
  constructor
  · simp only [writeHeaders, List.mem_cons, List.not_mem_nil, or_false]
    rintro (rfl | rfl | rfl | rfl | rfl | rfl | rfl)
    exacts [⟨.ctrl, rfl, rfl⟩, ⟨.clkHz, rfl, rfl⟩, ⟨.bitrateHz, rfl, rfl⟩, ⟨.spPct, rfl, rfl⟩,
      ⟨.interval, rfl, rfl⟩, ⟨.frameId, rfl, rfl⟩, ⟨.frameDlc, rfl, rfl⟩]
  · rintro ⟨r, hr, rfl⟩
    revert hr
    cases r <;> decide

/-- A read header is no write header: bit W differs (R111). -/
theorem readHeader_notMem_writeHeaders (r : RegName) : readHeader r ∉ writeHeaders := by cases r <;> decide

/-- A write header is legal (R113, R119). -/
theorem notMem_writeHeaders_of_decodeBus_error {hdr : Header} {v : Word} {e : Reject}
    (h : decodeBus hdr v = .error e) : hdr ∉ writeHeaders := by
  rw [mem_writeHeaders_iff]
  rintro ⟨r, hr, rfl⟩
  rw [decodeBus_writeHeader] at h
  cases r <;> simp [decodeWrite, isWritable] at h hr

/-- The command a word spells (R115, R120). -/
theorem decodeCmd_cases (cw : Word) :
    (cw = 0#32 ∧ decodeCmd cw = .nop) ∨ (cw = 1#32 ∧ decodeCmd cw = .solve) ∨ (cw = 2#32 ∧ decodeCmd cw = .start) ∨
    (2 < cw.toNat ∧ decodeCmd cw = .reserved) := by
  have hlow : (cw.extractLsb' 0 4).toNat = cw.toNat % 16 := by simp
  have hhigh : (cw.extractLsb' 4 28).toNat = cw.toNat / 16 := by
    have := cw.isLt
    simp [Nat.shiftRight_eq_div_pow]; omega
  rcases Nat.lt_or_ge 2 cw.toNat with hbig | hsmall
  · refine .inr (.inr (.inr ⟨hbig, ?_⟩))
    unfold decodeCmd
    split
    · rfl
    · rename_i hzero
      rw [not_not, ← BitVec.toNat_inj, hhigh] at hzero
      simp only [BitVec.toNat_ofNat, Nat.zero_mod] at hzero
      split
      · omega
      · omega
      · omega
      · rfl
  · have : cw.toNat = 0 ∨ cw.toNat = 1 ∨ cw.toNat = 2 := by omega
    rcases this with h | h | h
    · obtain rfl : cw = 0#32 := BitVec.eq_of_toNat_eq h
      exact .inl ⟨rfl, rfl⟩
    · obtain rfl : cw = 1#32 := BitVec.eq_of_toNat_eq h
      exact .inr (.inl ⟨rfl, rfl⟩)
    · obtain rfl : cw = 2#32 := BitVec.eq_of_toNat_eq h
      exact .inr (.inr (.inl ⟨rfl, rfl⟩))

theorem eq_zero_iff_decodeCmd_nop (cw : Word) : cw = 0#32 ↔ decodeCmd cw = .nop := by
  rcases decodeCmd_cases cw with ⟨rfl, hd⟩ | ⟨rfl, hd⟩ | ⟨rfl, hd⟩ | ⟨h, hd⟩
  · simp [hd]
  · simp [hd]
  · simp [hd]
  · have hne : cw ≠ 0#32 := by rintro rfl; simp at h
    simp [hd, hne]

theorem eq_two_of_decodeCmd_start {cw : Word} (h : decodeCmd cw = .start) : cw = 2#32 := by
  rcases decodeCmd_cases cw with ⟨rfl, hd⟩ | ⟨rfl, hd⟩ | ⟨rfl, hd⟩ | ⟨-, hd⟩ <;> simp_all

/-! ## What an operation leaves unchanged -/

/-- What a CTRL write that carries a command leaves unchanged (R58). -/
def CommandFrame (c : Command) (s t : State) : Prop :=
  SameConfig s t ∧ (c ∉ [.solve, .start] → t.btc = s.btc) ∧
  (c ≠ .start → t.lastTick = s.lastTick ∧ t.now = s.now ∧ t.elapsed = s.elapsed ∧
    t.frameCounter = s.frameCounter ∧ t.status.state = s.status.state) ∧
  (c ∉ [.solve, .start, .reserved] → t.status.result = s.status.result ∧ t.status.fault = s.status.fault) ∧
  t.status.dbg = s.status.dbg ∧ t.pending = s.pending ∧ t.args = s.args ∧ t.ports = s.ports ∧ t.turns = s.turns

theorem runCommand_frame (c : Command) (s : State) : CommandFrame c s (runCommand c s) := by
  rcases runCommand_outcomes c s with ⟨hc, hr⟩ | ⟨hc, hr⟩ | ⟨hc, -, hr⟩ | ⟨hc, -, -, hr⟩ |
    ⟨p, a, b, hc, -, -, -, hr⟩ | ⟨p, a, b, hc, -, -, -, hr⟩ | ⟨hc, hr⟩ <;> rw [hr] <;>
    simp [CommandFrame, SameConfig, hc]

/-- Ignored or run, a CTRL write stays within its command's frame. -/
theorem ctrlWrite_frame (c : Command) (s : State) : CommandFrame c s (gatedWrite .ctrl (runCommand c) s) := by
  rcases gatedWrite_cases .ctrl (runCommand c) s with ⟨-, h⟩ | ⟨-, h⟩ <;> rw [h]
  · exact runCommand_frame c _
  · simp [CommandFrame, SameConfig]

/-- No command touches WIGN (R49). -/
@[simp] theorem runCommand_wign (c : Command) (s : State) : (runCommand c s).status.wign = s.status.wign := by
  rcases runCommand_outcomes c s with ⟨-, hr⟩ | ⟨-, hr⟩ | ⟨-, -, hr⟩ | ⟨-, -, -, hr⟩ |
    ⟨p, a, b, -, -, -, -, hr⟩ | ⟨p, a, b, -, -, -, -, hr⟩ | ⟨-, hr⟩ <;> rw [hr] <;> rfl

/-- START alone changes STATE, from IDLE to AWAIT or HALTED (R46). -/
theorem runCommand_state (c : Command) (s : State) :
    (runCommand c s).status.state = s.status.state ∨
    (c = .start ∧ ((runCommand c s).status.state = .await ∨ (runCommand c s).status.state = .halted)) := by
  rcases runCommand_outcomes c s with ⟨-, hr⟩ | ⟨-, hr⟩ | ⟨-, -, hr⟩ | ⟨hc, -, -, hr⟩ |
    ⟨p, a, b, hc, -, -, -, hr⟩ | ⟨p, a, b, hc, -, -, -, hr⟩ | ⟨-, hr⟩ <;> rw [hr] <;> simp [*]

/-- Every command but NOP sets FAULT exactly when it writes RESULT with a host error (R50, R266, R267). -/
theorem runCommand_fault {c : Command} (hc : c ≠ .nop) (s : State) :
    (runCommand c s).status.fault = (s.status.fault || (runCommand c s).status.result.isHostError) := by
  rcases runCommand_outcomes c s with ⟨hn, -⟩ | ⟨-, hr⟩ | ⟨-, -, hr⟩ | ⟨-, -, -, hr⟩ |
    ⟨p, a, b, -, -, -, -, hr⟩ | ⟨p, a, b, -, -, -, -, hr⟩ | ⟨-, hr⟩
  · exact absurd hn hc
  all_goals rw [hr]; rfl

/-- A host error is BAD_ARG or BAD_CMD (R50). -/
theorem isHostError_iff (c : ResultCode) : c.isHostError = true ↔ c = .badArg ∨ c = .badCmd := by
  cases c <;> simp [ResultCode.isHostError]

/-! ## Single steps -/

/-- Settles O47, by the branches of a step; of the commands START alone changes STATE. -/
theorem controlStateTransitions : Obligations.ControlStateTransitions := by
  intro s t h
  rcases step_outcomes h with ⟨v, d, hn, hs, rfl⟩ | ⟨c, v, d, -, -, rfl⟩ | ⟨r, v, d, -, -, -, rfl⟩ |
    ⟨c, v, d, -, rfl⟩ | ⟨hdr, v, d, e, -, -, rfl⟩ | ⟨d, -, -, -, rfl⟩ | ⟨d, hn, hs, -, rfl⟩ | ⟨d, hn, hs, rfl⟩ |
    ⟨d, -, -, rfl⟩ | ⟨hn, rfl⟩
  · rcases runCommand_state (decodeCmd v) (State.respond (writeHeader .ctrl) 0#32 (takeTurn s)) with hr | ⟨hc, hr⟩
    · exact .inl hr
    · exact .inr (.inl ⟨hs, hr, d, eq_two_of_decodeCmd_start hc ▸ hn⟩)
  · exact .inl (by simp)
  · exact .inl rfl
  · exact .inl rfl
  · exact .inl rfl
  · exact .inl rfl
  · exact .inr (.inr (.inl ⟨hs, rfl, d, hn⟩))
  · exact .inr (.inr (.inr (.inl ⟨hs, rfl, d, hn⟩)))
  · exact .inl rfl
  · exact .inr (.inr (.inr (.inr ⟨rfl, hn⟩)))

/-- Settles O49: outside IDLE a write is ignored, and no other branch of a step but reset stores a configuration
register. -/
theorem configurationIsFrozenOutsideIdle : Obligations.ConfigurationIsFrozenOutsideIdle := by
  intro s t hne h hreset
  rcases step_outcomes h with ⟨v, d, -, hs, -⟩ | ⟨c, v, d, -, hs, -⟩ | ⟨r, v, d, -, -, -, rfl⟩ |
    ⟨c, v, d, -, rfl⟩ | ⟨hdr, v, d, e, -, -, rfl⟩ | ⟨d, -, -, -, rfl⟩ | ⟨d, -, -, -, rfl⟩ | ⟨d, -, -, rfl⟩ |
    ⟨d, -, -, rfl⟩ | ⟨hn, -⟩
  · exact absurd hs hne
  · exact absurd hs hne
  · simp [SameConfig]
  · simp [SameConfig]
  · simp [SameConfig]
  · simp [SameConfig]
  · simp [SameConfig]
  · simp [SameConfig]
  · simp [SameConfig]
  · exact absurd hn hreset

/-- Settles O50: the ignored write is the one branch of a step that sets WIGN, and no other has a write header outside
IDLE. -/
theorem writeIgnoredFlagIsSticky : Obligations.WriteIgnoredFlagIsSticky := by
  intro s t h
  rcases step_outcomes h with ⟨v, d, hn, hs, rfl⟩ | ⟨c, v, d, hn, hs, rfl⟩ | ⟨r, v, d, hn, hr, hs, rfl⟩ |
    ⟨c, v, d, hn, rfl⟩ | ⟨hdr, v, d, e, hn, he, rfl⟩ | ⟨d, hn, -, -, rfl⟩ | ⟨d, hn, -, -, rfl⟩ | ⟨d, hn, -, rfl⟩ |
    ⟨d, hn, -, rfl⟩ | ⟨hn, rfl⟩
  · simp [hn, hs]
  · simp [hn, hs]
  · simp [hn, hs, (mem_writeHeaders_iff _).mpr ⟨r, hr, rfl⟩]
  · simp [hn, readHeader_notMem_writeHeaders]
  · simp [hn, notMem_writeHeaders_of_decodeBus_error he]
  · simp [hn]
  · simp [hn]
  · simp [hn]
  · simp [hn]
  · simp [hn, Status.reset]

/-- A CTRL write is no configuration write (R92, R113). -/
theorem writeHeader_config_ne_ctrl (c : ConfigReg) : writeHeader c.reg ≠ writeHeader .ctrl := by cases c <;> decide

/-- After a CTRL write in IDLE, FAULT is set if it was, or by a command other than NOP that leaves a host error. -/
theorem runCommand_fault_iff (v : Word) (s : State) :
    (runCommand (decodeCmd v) s).status.fault = true ↔ s.status.fault = true ∨
      ((runCommand (decodeCmd v) s).status.result = .badArg ∨
        (runCommand (decodeCmd v) s).status.result = .badCmd) ∧ v ≠ 0#32 := by
  by_cases hv : v = 0#32
  · simp [hv, (eq_zero_iff_decodeCmd_nop 0#32).mp rfl, runCommand, nopCmd]
  · rw [runCommand_fault (mt (eq_zero_iff_decodeCmd_nop v).mpr hv), Bool.or_eq_true, isHostError_iff]
    simp [hv]

/-- Settles O51: the CTRL write in IDLE is the one branch of a step that writes FAULT, reset apart. -/
theorem faultFlagIsSticky : Obligations.FaultFlagIsSticky := by
  intro s t h
  rw [show 0x140#9 = writeHeader .ctrl from rfl]
  have hctrl : writeHeader .ctrl ∈ writeHeaders := (mem_writeHeaders_iff _).mpr ⟨.ctrl, rfl, rfl⟩
  rcases step_outcomes h with ⟨v, d, hn, hs, rfl⟩ | ⟨c, v, d, hn, hs, rfl⟩ | ⟨r, v, d, hn, hr, hs, rfl⟩ |
    ⟨c, v, d, hn, rfl⟩ | ⟨hdr, v, d, e, hn, he, rfl⟩ | ⟨d, hn, -, -, rfl⟩ | ⟨d, hn, -, -, rfl⟩ | ⟨d, hn, -, rfl⟩ |
    ⟨d, hn, -, rfl⟩ | ⟨hn, rfl⟩
  · simp [hn, hs, runCommand_fault_iff]
  · simp [hn, writeHeader_config_ne_ctrl]
  · simp [hn, hs]
  · have hhdr := ne_of_mem_of_not_mem hctrl (readHeader_notMem_writeHeaders c.reg)
    simp [hn, hhdr.symm]
  · have hhdr := ne_of_mem_of_not_mem hctrl (notMem_writeHeaders_of_decodeBus_error he)
    simp [hn, hhdr.symm]
  · simp [hn]
  · simp [hn]
  · simp [hn]
  · simp [hn]
  · simp [hn, Status.reset]


/-! ## The access matrix -/

/-- A configuration write changes its register and WIGN alone (R58). -/
theorem writeConfig_frame (r : ConfigReg) (v : Word) (s : State) :
    (writeConfig r v s).btc = s.btc ∧ (writeConfig r v s).lastTick = s.lastTick ∧ (writeConfig r v s).now = s.now ∧
    (writeConfig r v s).elapsed = s.elapsed ∧ (writeConfig r v s).frameCounter = s.frameCounter ∧
    (writeConfig r v s).status.state = s.status.state ∧ (writeConfig r v s).status.result = s.status.result ∧
    (writeConfig r v s).status.fault = s.status.fault ∧ (writeConfig r v s).status.dbg = s.status.dbg ∧
    (writeConfig r v s).pending = s.pending ∧ (writeConfig r v s).args = s.args ∧
    (writeConfig r v s).ports = s.ports ∧ (writeConfig r v s).turns = s.turns := by
  rcases gatedWrite_cases r.reg (setConfig r v) s with ⟨-, h⟩ | ⟨-, h⟩ <;> simp [writeConfig, h]

/-- A POLL, enabled or not, changes the tick registers, STATE, DBG and PENDING alone (R58). -/
theorem poll_frame (s : State) : SameConfig s (OpKind.poll.effect s) ∧ (OpKind.poll.effect s).btc = s.btc ∧
    (OpKind.poll.effect s).frameCounter = s.frameCounter ∧
    (OpKind.poll.effect s).status.result = s.status.result ∧ (OpKind.poll.effect s).status.fault = s.status.fault ∧
    (OpKind.poll.effect s).status.wign = s.status.wign ∧ (OpKind.poll.effect s).args = s.args ∧
    (OpKind.poll.effect s).ports = s.ports ∧ (OpKind.poll.effect s).turns = s.turns := by
  by_cases hs : s.status.state = .await
  · rcases pollEffect_cases s with ⟨-, h⟩ | ⟨-, h⟩ <;>
      simp [OpKind.effect, whenEnabled_enabled hs, h, SameConfig]
  · simp [OpKind.effect, whenEnabled_disabled hs, SameConfig]

/-- A TXDONE, enabled or not, changes FRAME_COUNTER, STATE, DBG and PENDING alone (R58). -/
theorem txdone_frame (s : State) : SameConfig s (OpKind.txdone.effect s) ∧ (OpKind.txdone.effect s).btc = s.btc ∧
    (OpKind.txdone.effect s).lastTick = s.lastTick ∧ (OpKind.txdone.effect s).now = s.now ∧
    (OpKind.txdone.effect s).elapsed = s.elapsed ∧ (OpKind.txdone.effect s).status.result = s.status.result ∧
    (OpKind.txdone.effect s).status.fault = s.status.fault ∧ (OpKind.txdone.effect s).status.wign = s.status.wign ∧
    (OpKind.txdone.effect s).args = s.args ∧ (OpKind.txdone.effect s).ports = s.ports ∧
    (OpKind.txdone.effect s).turns = s.turns := by
  by_cases hs : s.status.state = .transmit
  · simp [OpKind.effect, whenEnabled_enabled hs, SameConfig]
  · simp [OpKind.effect, whenEnabled_disabled hs, SameConfig]

/-- Settles O53, one frame above for each kind of operation; a read changes nothing but the trace. -/
theorem accessMatrixHolds : Obligations.AccessMatrixHolds := by
  intro i s t h
  rw [exec_eq_effect, Host.Outcome.next.injEq] at h
  subst h
  simp only [isConfigWrite_eq_isWrite, commandOf_eq_command?, ne_eq, eq_poll_iff_opKind, eq_txdone_iff_opKind]
  cases opKind i with
  | write r v =>
    have hframe := writeConfig_frame r v s
    simp [OpKind.isWrite, OpKind.command?, OpKind.effect, hframe]
  | command c =>
    obtain ⟨hconfig, hbtc, hschedule, hresult, hrest⟩ := ctrlWrite_frame c s
    simp_all [OpKind.isWrite, OpKind.command?, OpKind.effect]
  | read r => simp [OpKind.isWrite, OpKind.command?, OpKind.effect, SameConfig]
  | poll =>
    have hframe := poll_frame s
    simp [OpKind.isWrite, OpKind.command?, hframe]
  | txdone =>
    have hframe := txdone_frame s
    simp [OpKind.isWrite, OpKind.command?, hframe]

/-! ## BTC of a running block -/

/-- The fields of an encoded configuration stand side by side (R38, R159). -/
theorem encBtc_config_toNat {p a b : Nat} (hp : p < 2 ^ 16) (ha : a < 2 ^ 8) (hb : b < 2 ^ 7) :
    (encBtc (.config p a b)).toNat = 2 ^ 31 + b * 2 ^ 24 + a * 2 ^ 16 + p := by
  have hab : a * 2 ^ 16 ||| p = a * 2 ^ 16 + p := by
    rw [← Nat.shiftLeft_eq, Nat.shiftLeft_add_eq_or_of_lt hp]
  have hbab : b * 2 ^ 24 ||| (a * 2 ^ 16 + p) = b * 2 ^ 24 + (a * 2 ^ 16 + p) := by
    rw [← Nat.shiftLeft_eq b, Nat.shiftLeft_add_eq_or_of_lt (by omega)]
  have hall : 1 * 2 ^ 31 ||| (b * 2 ^ 24 + (a * 2 ^ 16 + p)) = 1 * 2 ^ 31 + (b * 2 ^ 24 + (a * 2 ^ 16 + p)) := by
    rw [← Nat.shiftLeft_eq 1, Nat.shiftLeft_add_eq_or_of_lt (by omega)]
  have hword : (encBtc (.config p a b)).toNat = 1 * 2 ^ 31 ||| (b * 2 ^ 24 ||| (a * 2 ^ 16 ||| p)) := by
    have hfit : p < 2 ^ 32 ∧ a < 2 ^ 32 ∧ b < 2 ^ 32 ∧ a * 2 ^ 16 < 2 ^ 32 ∧ b * 2 ^ 24 < 2 ^ 32 := by omega
    obtain ⟨hp, ha, hb, ha', hb'⟩ := hfit
    simp only [encBtc, BitVec.toNat_or, BitVec.toNat_shiftLeft, BitVec.toNat_ofNat, Nat.shiftLeft_eq, Nat.or_assoc,
      Nat.mod_eq_of_lt hp, Nat.mod_eq_of_lt ha, Nat.mod_eq_of_lt hb, Nat.mod_eq_of_lt ha', Nat.mod_eq_of_lt hb']
    rfl
  rw [hword, hab, hbab, hall]
  omega

/-- A legal configuration reads back from BTC field by field (R38). -/
theorem btc_fields_encBtc {p a b : Nat} (hp : p ≤ 1024) (ha : a ≤ 16) (hb : b ≤ 8) :
    btcPrescaler (encBtc (.config p a b)) = p ∧ btcPs1 (encBtc (.config p a b)) = a ∧
      btcPs2 (encBtc (.config p a b)) = b ∧ btcValid (encBtc (.config p a b)) = true := by
  have hword := encBtc_config_toNat (p := p) (a := a) (b := b) (by omega) (by omega) (by omega)
  simp only [btcPrescaler, btcPs1, btcPs2, btcValid, BitVec.extractLsb'_toNat, BitVec.getLsbD, hword,
    Nat.shiftRight_eq_div_pow, Nat.testBit_eq_decide_div_mod_eq, decide_eq_true_eq]
  omega

/-- Settles O55: a running BTC is the solver's configuration, which reads back and gives the clock exactly. -/
theorem runningBtcDescribesTheClock : Obligations.RunningBtcDescribesTheClock := by
  intro s h hrun
  obtain ⟨p, a, b, hsolve, hbtc⟩ := h.running_btc hrun
  obtain ⟨⟨-, hp⟩, ⟨-, ha⟩, ⟨-, hb⟩, hquanta, hclk⟩ := solveFn_config_spec hsolve
  obtain ⟨hp', ha', hb', hvalid⟩ := btc_fields_encBtc hp ha hb
  rw [hbtc, hp', ha', hb']
  exact ⟨hvalid, hquanta, hclk⟩

end Sys2Proof.Machine
end

section
/-! O5, O9, O16, O17 and O44: what a step does with its turn and what it emits, and the order of the events. -/

namespace Sys2Proof.Machine

/-! ## The order of events -/

/-- Events that lead from the phase of a trace to the phase of the new control state keep the order. -/
theorem followsProtocol_of_events {tr es : List Event} {ph ph' : Phase} {t : State} (hph : phaseOf tr = some ph)
    (htr : t.trace = tr ++ es) (hes : es.foldlM phaseStep ph = some ph') (ht : phaseFor t = some ph') :
    FollowsProtocol t :=
  ⟨ph', ht, by rw [htr, phaseOf_append hph, hes]⟩

/-- The trace is in the phase the control state stands for. -/
theorem FollowsProtocol.phaseOf_eq {s : State} (h : FollowsProtocol s) {ph : Phase} (hs : phaseFor s = some ph) :
    phaseOf s.trace = some ph := by
  obtain ⟨ph', hfor, hof⟩ := h
  rw [hof, ← hfor, hs]

/-- The phases of the control states are those between steps, where a host response may stand (R88). -/
theorem phaseStep_busResp_of_phaseFor {s : State} {ph : Phase} (hs : phaseFor s = some ph) (hdr : Header) (v : Word)
    (r : BusReply) : phaseStep ph (.busResp hdr v r) = some ph := by
  unfold phaseFor at hs
  cases hst : s.status.state <;> rw [hst] at hs
  case halted => cases hres : s.status.result <;> rw [hres] at hs <;> cases hs <;> rfl
  all_goals cases hs; rfl

/-- A bus response keeps the order, in every control state. -/
theorem FollowsProtocol.emit_busResp {s : State} (h : FollowsProtocol s) (hdr : Header) (v : Word) (r : BusReply) :
    FollowsProtocol (s.emit (.busResp hdr v r)) := by
  obtain ⟨ph, hfor, hof⟩ := h
  exact followsProtocol_of_events hof rfl (by simp [phaseStep_busResp_of_phaseFor hfor]) hfor

/-- The order of events reads STATE, RESULT and the trace alone. -/
theorem FollowsProtocol.congr {s t : State} (h : FollowsProtocol s) (hstate : t.status.state = s.status.state)
    (hresult : t.status.result = s.status.result) (htrace : t.trace = s.trace) : FollowsProtocol t := by
  rwa [FollowsProtocol, phaseFor, hstate, hresult, htrace]

/-- A configuration register stored emits nothing (R220). -/
theorem FollowsProtocol.setConfig {s : State} (h : FollowsProtocol s) (c : ConfigReg) (v : Word) :
    FollowsProtocol (setConfig c v s) :=
  h.congr (by simp) (by simp) (by simp)

/-- Every command in IDLE keeps the order: a START that passes its checks initialises, configures and goes where the
answer sends it, and no other command emits an event (R208 to R213). -/
theorem FollowsProtocol.runCommand {s : State} (h : FollowsProtocol s) (hs : s.status.state = .idle) (c : Command) :
    FollowsProtocol (runCommand c s) := by
  have hfresh : phaseOf s.trace = some .fresh := h.phaseOf_eq (by simp [phaseFor, hs])
  rcases runCommand_outcomes c s with ⟨-, hr⟩ | ⟨-, hr⟩ | ⟨-, -, hr⟩ | ⟨-, -, -, hr⟩ |
    ⟨p, a, b, -, -, -, -, hr⟩ | ⟨p, a, b, -, -, -, -, hr⟩ | ⟨-, hr⟩ <;> rw [hr]
  · exact h
  · exact ⟨.fresh, by simp [phaseFor, hs], hfresh⟩
  · exact ⟨.fresh, by simp [phaseFor, hs], hfresh⟩
  · exact followsProtocol_of_events hfresh rfl (es := [.hpiInit]) (ph' := .initialised) rfl rfl
  · exact followsProtocol_of_events hfresh rfl (ph' := .rejected) rfl rfl
  · exact followsProtocol_of_events hfresh rfl (ph' := .ready) rfl rfl
  · exact ⟨.fresh, by simp [phaseFor, hs], hfresh⟩

/-- A firing POLL raises DBG, then requests its one transmit (R178, R179). -/
theorem FollowsProtocol.pollFire {s : State} (h : FollowsProtocol s) (hs : s.status.state = .await) :
    FollowsProtocol (pollFire s) := by
  have hready : phaseOf s.trace = some .ready := h.phaseOf_eq (by simp [phaseFor, hs])
  exact followsProtocol_of_events hready (List.append_assoc ..) (ph' := .outstanding) rfl rfl

/-- TXDONE takes the answer of the outstanding transmit, then lets DBG fall (R180, R183). -/
theorem FollowsProtocol.txdoneEffect {s : State} (h : FollowsProtocol s) (hs : s.status.state = .transmit) :
    FollowsProtocol (txdoneEffect s) := by
  have houtstanding : phaseOf s.trace = some .outstanding := h.phaseOf_eq (by simp [phaseFor, hs])
  exact followsProtocol_of_events houtstanding (List.append_assoc ..) (ph' := .ready) rfl rfl

/-- Reset begins the order anew, wherever it stood (R300). -/
theorem FollowsProtocol.resetBlock {s : State} (h : FollowsProtocol s) : FollowsProtocol (resetBlock s) := by
  obtain ⟨ph, -, hof⟩ := h
  exact followsProtocol_of_events hof rfl (ph' := .fresh) rfl rfl

/-- Settles O44, by the branches of a step: one rule above for each that emits an event. -/
theorem eventTraceFollowsTheProtocol : Obligations.EventTraceFollowsTheProtocol := by
  intro s t h hstep
  have htake : FollowsProtocol (takeTurn s) := h.congr rfl rfl rfl
  have hsample : FollowsProtocol (pollSample (takeTurn s)) := htake.congr rfl rfl rfl
  rcases step_outcomes hstep with ⟨v, d, -, hs, rfl⟩ | ⟨c, v, d, -, -, rfl⟩ | ⟨r, v, d, -, -, -, rfl⟩ |
    ⟨c, v, d, -, rfl⟩ | ⟨hdr, v, d, e, -, -, rfl⟩ | ⟨d, -, -, -, rfl⟩ | ⟨d, -, hs, -, rfl⟩ | ⟨d, -, hs, rfl⟩ |
    ⟨d, -, -, rfl⟩ | ⟨-, rfl⟩
  · exact (htake.emit_busResp ..).runCommand hs _
  · exact (htake.emit_busResp ..).setConfig c v
  · exact (htake.emit_busResp ..).congr rfl rfl rfl
  · exact htake.emit_busResp ..
  · exact htake.emit_busResp ..
  · exact hsample
  · exact hsample.pollFire hs
  · exact htake.txdoneEffect hs
  · exact htake
  · exact htake.resetBlock

/-! ## What a step emits -/

/-- What the events of one step are, by the turn it takes (R88). -/
def EmittedBy : Turn → List Event → Prop
  | .host hdr _ _, es => ∃ v r rest, es = .busResp hdr v r :: rest ∧ ∀ e ∈ rest, e.isBus = false
  | .block _, es => ∀ e ∈ es, e.isBus = false
  | .reset, es => es = [.reset]

/-- A command appends its dealings with the HPI and no bus response (R200, R208 to R211). -/
theorem runCommand_trace (c : Command) (s : State) :
    ∃ es, (runCommand c s).trace = s.trace ++ es ∧ ∀ e ∈ es, e.isBus = false := by
  rcases runCommand_outcomes c s with ⟨-, hr⟩ | ⟨-, hr⟩ | ⟨-, -, hr⟩ | ⟨-, -, -, hr⟩ |
    ⟨p, a, b, -, -, -, -, hr⟩ | ⟨p, a, b, -, -, -, -, hr⟩ | ⟨-, hr⟩ <;> rw [hr]
  · exact ⟨[], by simp, by simp⟩
  · exact ⟨[], by simp, by simp⟩
  · exact ⟨[], by simp, by simp⟩
  · exact ⟨[.hpiInit], rfl, by simp [Event.isBus]⟩
  · exact ⟨_, rfl, by simp [Event.isBus]⟩
  · exact ⟨_, rfl, by simp [Event.isBus]⟩
  · exact ⟨[], by simp, by simp⟩

/-- A host turn whose one event is its response. -/
theorem emittedBy_host_response (hdr : Header) (data : Word) (d : Draws) (v : Word) (r : BusReply) :
    EmittedBy (.host hdr data d) [.busResp hdr v r] :=
  ⟨v, r, [], rfl, by simp⟩

/-- Every step appends the events of its turn, and nothing else. -/
theorem step_trace {s t : State} (h : step s = .next t) :
    ∃ es, t.trace = s.trace ++ es ∧ EmittedBy (nextTurn s) es := by
  rcases step_outcomes h with ⟨v, d, hn, -, rfl⟩ | ⟨c, v, d, hn, -, rfl⟩ | ⟨r, v, d, hn, -, -, rfl⟩ |
    ⟨c, v, d, hn, rfl⟩ | ⟨hdr, v, d, e, hn, -, rfl⟩ | ⟨d, hn, -, -, rfl⟩ | ⟨d, hn, -, -, rfl⟩ | ⟨d, hn, -, rfl⟩ |
    ⟨d, hn, -, rfl⟩ | ⟨hn, rfl⟩ <;> rw [hn]
  · obtain ⟨es, htr, hes⟩ :=
      runCommand_trace (decodeCmd v) (State.respond (writeHeader .ctrl) 0#32 (takeTurn s))
    exact ⟨.busResp (writeHeader .ctrl) 0#32 .okay :: es, by simp [htr], _, _, es, rfl, hes⟩
  · exact ⟨_, setConfig_trace .., emittedBy_host_response ..⟩
  · exact ⟨_, rfl, emittedBy_host_response ..⟩
  · exact ⟨_, rfl, emittedBy_host_response ..⟩
  · exact ⟨_, rfl, emittedBy_host_response ..⟩
  · exact ⟨[], by simp, by simp [EmittedBy]⟩
  · exact ⟨_, List.append_assoc .., by simp [EmittedBy, Event.isBus]⟩
  · exact ⟨_, List.append_assoc .., by simp [EmittedBy, Event.isBus]⟩
  · exact ⟨[], by simp, by simp [EmittedBy]⟩
  · exact ⟨_, rfl, rfl⟩

/-- Settles O9, one clause of `EmittedBy` for each kind of turn. -/
theorem traceGrowsByWhatTheTurnEmits : Obligations.TraceGrowsByWhatTheTurnEmits := by
  intro s t h
  obtain ⟨es, htr, hes⟩ := step_trace h
  refine ⟨es, htr, fun hdr data d hn => ?_, fun d hn => ?_, fun hn => ?_⟩ <;> rw [hn] at hes <;> exact hes

/-! ## What a turn runs -/

/-- The move taken is the head of the turns. -/
theorem nextTurn_of_turns {s : State} {n : Turn} {rest : List Turn} (h : s.turns = n :: rest) : nextTurn s = n := by
  rw [nextTurn, h]

/-- A listed move of the block, or none left, makes the next move the block's (log 1). -/
theorem nextTurn_block_of_turns {s : State} {d : Draws} {rest : List Turn}
    (h : s.turns = .block d :: rest ∨ s.turns = []) : ∃ d', nextTurn s = .block d' := by
  rcases h with h | h
  · exact ⟨d, nextTurn_of_turns h⟩
  · exact ⟨Draws.free, by rw [nextTurn, h]⟩

/-- Taking a listed turn removes it and puts its draws at the ports. -/
theorem takeTurn_of_turns {s : State} {n : Turn} {rest : List Turn} (h : s.turns = n :: rest) :
    takeTurn s = { s with turns := rest, ports := ⟨n.draws.counter, n.draws.hpi, s.ports.index + 1⟩ } := by
  rw [takeTurn, nextTurn_of_turns h, h, List.tail_cons]

/-- Where no turn is listed the ports fix no draw. -/
theorem takeTurn_of_no_turns {s : State} (h : s.turns = []) :
    takeTurn s = { s with ports := ⟨none, none, s.ports.index + 1⟩ } := by
  have hn : nextTurn s = .block Draws.free := by rw [nextTurn, h]
  rw [takeTurn, hn, h, List.tail_nil, ← h]; rfl

/-- A host turn's step is the effect of its transaction. -/
theorem step_of_host_turn {s : State} {hdr : Header} {data : Word} {d : Draws} {rest : List Turn}
    (h : s.turns = .host hdr data d :: rest) : step s = .next (hostEffect hdr data (takeTurn s)) := by
  rw [step_eq_turnEffect, nextTurn_of_turns h, turnEffect]

/-- Settles O5: `step_eq_turnEffect` at each kind of turn. -/
theorem stepRunsTheDecodedOperation : Obligations.StepRunsTheDecodedOperation := by
  intro s
  refine ⟨fun hdr data d rest i h hd => ?_, fun d rest h => ?_, fun rest h => ?_,
    fun _ _ => takeTurn_of_turns, takeTurn_of_no_turns⟩
  · rw [step_of_host_turn h, hostEffect, hd, exec_eq_effect]
  · obtain ⟨d', hn⟩ := nextTurn_block_of_turns h
    rw [step_eq_turnEffect, hn]
    refine ⟨fun hs => ?_, fun hs => ?_, fun hs => ?_⟩
    · rw [hs, exec, execPoll, whenEnabled_enabled (s := takeTurn s) hs]; rfl
    · rw [hs, exec, execTxdone, whenEnabled_enabled (s := takeTurn s) hs]; rfl
    · rcases hs with hs | hs <;> rw [hs] <;> rfl
  · rw [step_eq_turnEffect, nextTurn_of_turns h, turnEffect]

/-! ## Reads and configuration registers -/

/-- A transaction with W = 0 only answers, whether its header is legal or not (R86, R262). -/
theorem hostEffect_of_not_headerWrite {hdr : Header} (hw : headerWrite hdr = false) (data : Word) (s : State) :
    ∃ v r, hostEffect hdr data s = s.emit (.busResp hdr v r) := by
  unfold hostEffect
  cases hd : decodeBus hdr data with
  | error e => exact ⟨0#32, .slverr, rfl⟩
  | ok i =>
    obtain ⟨r, ⟨rfl, -⟩ | ⟨rfl, hr⟩⟩ := decodeBus_ok_cases hd
    · obtain ⟨-, hw', -⟩ := writeHeader_fields r
      exact absurd (hw.symm.trans hw') (by decide)
    · obtain ⟨c, rfl, hx⟩ := exec_of_decodeRead hr s
      rw [exec_eq_effect, Host.Outcome.next.injEq] at hx
      exact ⟨readVal c s, .okay, hx⟩

/-- Settles O16: the step is the transaction's effect, which is its response. -/
theorem readsHaveNoSideEffect : Obligations.ReadsHaveNoSideEffect := by
  intro s hdr data d rest h hw
  obtain ⟨v, r, hread⟩ := hostEffect_of_not_headerWrite hw data (takeTurn s)
  exact ⟨v, r, by rw [step_of_host_turn h, hread]; rfl⟩

/-- A write header of a configuration register writes it (R113, R220). -/
theorem hostEffect_writeHeader_config (c : ConfigReg) (v : Word) :
    hostEffect (writeHeader c.reg) v = writeConfig c v := by
  cases c <;> rfl

/-- A read header of a configuration register reads it (R113). -/
theorem hostEffect_readHeader_config (c : ConfigReg) (x : Word) :
    hostEffect (readHeader c.reg) x = readReg (.config c) := by
  cases c <;> rfl

/-- In IDLE a turn that writes a configuration register stores its data word (R220). -/
theorem step_of_config_write {s : State} {c : ConfigReg} {v : Word} {d : Draws} {rest : List Turn}
    (h : s.turns = .host (writeHeader c.reg) v d :: rest) (hs : s.status.state = .idle) :
    step s = .next (setConfig c v ((takeTurn s).respond (writeHeader c.reg) 0#32)) := by
  rw [step_of_host_turn h, hostEffect_writeHeader_config, writeConfig, gatedWrite_idle (s := takeTurn s) hs]

/-- A turn that reads a configuration register returns its value (R228 to R233). -/
theorem step_of_config_read {s : State} {c : ConfigReg} {x : Word} {d : Draws} {rest : List Turn}
    (h : s.turns = .host (readHeader c.reg) x d :: rest) : step s = .next (readReg (.config c) (takeTurn s)) := by
  rw [step_of_host_turn h, hostEffect_readHeader_config]

/-- A configuration register holds what was stored, all 32 bits of it (R90, R117). -/
@[simp] theorem configVal_setConfig_same (c : ConfigReg) (v : Word) (s : State) :
    configVal c (setConfig c v s) = v := by
  cases c <;> rfl

/-- Taking a turn leaves every configuration register as it was. -/
@[simp] theorem configVal_takeTurn (c : ConfigReg) (s : State) : configVal c (takeTurn s) = configVal c s := by
  cases c <;> rfl

/-- Settles O17: the write stores, and the read that follows it returns what is stored. -/
theorem configurationReadsBackWhatWasWritten : Obligations.ConfigurationReadsBackWhatWasWritten := by
  intro s v x d e rest wh rh hmem hs h
  obtain ⟨c, rfl, rfl⟩ : ∃ c : ConfigReg, wh = writeHeader c.reg ∧ rh = readHeader c.reg := by
    simp only [List.mem_cons, Prod.mk.injEq, List.not_mem_nil, or_false] at hmem
    rcases hmem with ⟨rfl, rfl⟩ | ⟨rfl, rfl⟩ | ⟨rfl, rfl⟩ | ⟨rfl, rfl⟩ | ⟨rfl, rfl⟩ | ⟨rfl, rfl⟩
    exacts [⟨.clkHz, rfl, rfl⟩, ⟨.bitrateHz, rfl, rfl⟩, ⟨.spPct, rfl, rfl⟩, ⟨.interval, rfl, rfl⟩,
      ⟨.frameId, rfl, rfl⟩, ⟨.frameDlc, rfl, rfl⟩]
  have hturns : (setConfig c v ((takeTurn s).respond (writeHeader c.reg) 0#32)).turns =
      .host (readHeader c.reg) x e :: rest := by simp [h]
  exact ⟨_, _, step_of_config_write h hs, step_of_config_read hturns, by simp [readVal, ReadReg.reg], by simp⟩

end Sys2Proof.Machine
end

section
/-! O1, O2, O3, O4, O6, O7 and O36: the decoder and the encoder, and the step each decoded operation runs. -/

namespace Sys2Proof.Machine

/-! ## Which registers a transaction may reach -/

/-- The write column of R113 has an entry exactly for the registers a host may write. -/
theorem exists_decodeWrite_iff (data : Word) (r : RegName) :
    (∃ i, decodeWrite data r = .ok i) ↔ isWritable r = true := by
  cases r <;> simp [decodeWrite, isWritable]

/-- The read column of R113 has an entry for every register but CTRL (R51). -/
theorem exists_decodeRead_iff (r : RegName) : (∃ i, decodeRead r = .ok i) ↔ r ≠ .ctrl := by
  cases r <;> simp [decodeRead]

/-- The read headers are those of every register but CTRL (R113). -/
theorem mem_readHeaders_iff (hdr : Header) : hdr ∈ readHeaders ↔ ∃ r, r ≠ .ctrl ∧ hdr = readHeader r := by
  constructor
  · simp only [readHeaders, List.mem_cons, List.not_mem_nil, or_false]
    rintro (rfl | rfl | rfl | rfl | rfl | rfl | rfl | rfl | rfl | rfl | rfl | rfl | rfl)
    exacts [⟨.status, by decide⟩, ⟨.clkHz, by decide⟩, ⟨.bitrateHz, by decide⟩, ⟨.spPct, by decide⟩,
      ⟨.interval, by decide⟩, ⟨.frameId, by decide⟩, ⟨.frameDlc, by decide⟩, ⟨.btc, by decide⟩,
      ⟨.lastTick, by decide⟩, ⟨.now, by decide⟩, ⟨.elapsed, by decide⟩, ⟨.fcLo, by decide⟩, ⟨.fcHi, by decide⟩]
  · rintro ⟨r, hr, rfl⟩
    revert hr
    cases r <;> decide

/-- The headers that decode are the 20 of R113. -/
theorem exists_decodeBus_iff_mem (hdr : Header) (data : Word) :
    (∃ i, decodeBus hdr data = .ok i) ↔ hdr ∈ writeHeaders ++ readHeaders := by
  rw [List.mem_append, mem_writeHeaders_iff, mem_readHeaders_iff]
  constructor
  · rintro ⟨i, h⟩
    obtain ⟨r, ⟨rfl, hd⟩ | ⟨rfl, hd⟩⟩ := decodeBus_ok_cases h
    · exact .inl ⟨r, (exists_decodeWrite_iff data r).1 ⟨i, hd⟩, rfl⟩
    · exact .inr ⟨r, (exists_decodeRead_iff r).1 ⟨i, hd⟩, rfl⟩
  · rintro (⟨r, hr, rfl⟩ | ⟨r, hr, rfl⟩)
    · rw [decodeBus_writeHeader]; exact (exists_decodeWrite_iff data r).2 hr
    · rw [decodeBus_readHeader]; exact (exists_decodeRead_iff r).2 hr

/-! ## The checks of WellFormed on a header -/

/-- An aligned offset outside the two unmapped slots names a register (R92). -/
theorem exists_regAt_of_aligned {off : Offset} (ha : off.extractLsb' 0 2 = 0b00#2) (hm : off ∉ [0x38#6, 0x3C#6]) :
    ∃ r, regAt off = some r := by
  rw [← Option.isSome_iff_exists]
  revert off
  decide

/-- A header of word size with a mapped offset is a write or a read header (R111, R112). -/
theorem header_cases_of_checks {hdr : Header} (hs : OpWord.sizeOk hdr = true) (ha : OpWord.alignedOk hdr = true)
    (hm : OpWord.mappedOk hdr = true) : ∃ r, hdr = writeHeader r ∨ hdr = readHeader r := by
  have hsize : headerSize hdr = 0b10#2 := eq_of_beq hs
  have haligned : (headerOffset hdr).extractLsb' 0 2 = 0b00#2 := by
    rw [headerOffset, BitVec.extractLsb'_extractLsb'_of_le (by decide)]
    exact eq_of_beq ha
  obtain ⟨r, hr⟩ := exists_regAt_of_aligned haligned (by simpa [OpWord.mappedOk, headerOffset] using hm)
  refine ⟨r, ?_⟩
  rw [header_eq hdr, hsize, eq_regOffset_of_regAt hr]
  cases headerWrite hdr
  · exact .inr rfl
  · exact .inl rfl

/-- On write headers the check of R119 asks for a register a host may write. -/
theorem writableOk_writeHeader (r : RegName) : OpWord.writableOk (writeHeader r) = isWritable r := by
  cases r <;> decide

/-- On read headers the check of R119 asks for a register other than CTRL. -/
theorem readableOk_readHeader (r : RegName) : OpWord.readableOk (readHeader r) = true ↔ r ≠ .ctrl := by
  cases r <;> decide

/-- A header that passes every check decodes (R118). -/
theorem exists_decodeBus_of_wf {hdr : Header} {data : Word} (h : (OpWord.bus hdr data).wf = true) :
    ∃ i, decodeBus hdr data = .ok i := by
  simp only [OpWord.wf, Bool.and_eq_true] at h
  obtain ⟨⟨⟨⟨hs, ha⟩, hm⟩, hr⟩, hw⟩ := h
  obtain ⟨r, rfl | rfl⟩ := header_cases_of_checks hs ha hm
  · rw [decodeBus_writeHeader, exists_decodeWrite_iff, ← writableOk_writeHeader, hw]
  · rw [decodeBus_readHeader, exists_decodeRead_iff, ← readableOk_readHeader, hr]

/-! ## Command words and STATE values -/

/-- The reserved words are those above START's (R115, R120). -/
theorem reservedWord_iff (cw : Word) : ReservedWord cw ↔ 2 < cw.toNat := by
  have hlow : (cw.extractLsb' 0 4).toNat = cw.toNat % 16 := by simp
  have hhigh : cw.extractLsb' 4 28 = 0#28 ↔ cw.toNat / 16 = 0 := by
    have := cw.isLt
    rw [← BitVec.toNat_inj]
    simp [Nat.shiftRight_eq_div_pow]; omega
  rw [ReservedWord, ne_eq, hhigh, hlow]
  omega

/-- A word that decodes as a command is its operation's encoding, and the operation carries that command. -/
theorem decode_cmd_ok {cw : Word} {i : Instr} (h : decode (.cmd cw) = .ok i) :
    encode i = .cmd cw ∧ opKind i = .command (decodeCmd cw) := by
  rcases decodeCmd_cases cw with ⟨rfl, hd⟩ | ⟨rfl, hd⟩ | ⟨rfl, hd⟩ | ⟨-, hd⟩ <;>
    simp only [decode, hd, Except.ok.injEq, reduceCtorEq] at h <;> subst h <;> exact ⟨rfl, rfl⟩

/-- A command word that passes its checks decodes (R114, R115). -/
theorem exists_decode_cmd_of_wf {cw : Word} (h : (OpWord.cmd cw).wf = true) : ∃ i, decode (.cmd cw) = .ok i := by
  have hlegal : ¬ ReservedWord cw := by
    simp only [OpWord.wf, OpWord.mbzOk, OpWord.opOk, Bool.and_eq_true, beq_iff_eq, decide_eq_true_eq] at h
    rintro (hmbz | hop)
    · exact hmbz h.1
    · omega
  rw [reservedWord_iff] at hlegal
  rcases decodeCmd_cases cw with ⟨rfl, -⟩ | ⟨rfl, -⟩ | ⟨rfl, -⟩ | ⟨hbig, -⟩
  · exact ⟨.nop, rfl⟩
  · exact ⟨.solve, rfl⟩
  · exact ⟨.start, rfl⟩
  · exact absurd hbig hlegal

/-- The two STATE values that select an internal step (R116). -/
theorem decodeInt_ok_cases {st : BitVec 2} {i : Instr} (h : decodeInt st = .ok i) :
    (st = 1#2 ∧ i = .poll) ∨ (st = 2#2 ∧ i = .txdone) := by
  unfold decodeInt at h
  split at h
  · exact .inl ⟨BitVec.eq_of_toNat_eq ‹_›, (Except.ok.inj h).symm⟩
  · exact .inr ⟨BitVec.eq_of_toNat_eq ‹_›, (Except.ok.inj h).symm⟩
  · cases h

/-! ## Decoding and encoding -/

/-- The write column read backwards: the encoding is the register's write header with the data word. -/
theorem encode_of_decodeWrite {r : RegName} {data : Word} {i : Instr} (h : decodeWrite data r = .ok i) :
    encode i = .bus (writeHeader r) data := by
  cases r <;> simp only [decodeWrite, Except.ok.injEq, reduceCtorEq] at h <;> subst h <;> rfl

/-- The read column read backwards: the encoding is the register's read header with the data lane clear. -/
theorem encode_of_decodeRead {r : RegName} {i : Instr} (h : decodeRead r = .ok i) :
    encode i = .bus (readHeader r) 0 := by
  cases r <;> simp only [decodeRead, Except.ok.injEq, reduceCtorEq] at h <;> subst h <;> rfl

/-- Decoding an encoding gives the operation back: each row of the tables, both ways round. -/
theorem decode_encode (i : Instr) : decode (encode i) = .ok i := by cases i <;> rfl

/-- An operation is encoded in every raw form it decodes from, up to the lane a read does not carry (R111). -/
theorem encode_of_decode {o : OpWord} {i : Instr} (h : decode o = .ok i) : encode i = o.canonical := by
  cases o with
  | bus hdr data =>
    obtain ⟨r, ⟨rfl, hd⟩ | ⟨rfl, hd⟩⟩ := decodeBus_ok_cases h
    · obtain ⟨-, hw, -⟩ := writeHeader_fields r
      rw [encode_of_decodeWrite hd, OpWord.canonical, if_pos hw]
    · obtain ⟨-, hw, -⟩ := readHeader_fields r
      rw [encode_of_decodeRead hd, OpWord.canonical, hw, if_neg Bool.false_ne_true]
  | cmd cw => exact (decode_cmd_ok h).1
  | int st => obtain ⟨rfl, rfl⟩ | ⟨rfl, rfl⟩ := decodeInt_ok_cases h <;> rfl

/-- Every encoding passes every check. -/
theorem encode_wf (i : Instr) : (encode i).wf = true := by cases i <;> rfl

/-- No check looks at the data lane. -/
theorem canonical_wf (o : OpWord) : o.canonical.wf = o.wf := by cases o <;> rfl

/-- A raw operation that passes every check decodes. -/
theorem exists_decode_of_wf {o : OpWord} (h : o.wf = true) : ∃ i, decode o = .ok i := by
  cases o with
  | bus hdr data => exact exists_decodeBus_of_wf h
  | cmd cw => exact exists_decode_cmd_of_wf h
  | int st =>
    simp only [OpWord.wf, OpWord.stateOk, Bool.or_eq_true, beq_iff_eq] at h
    rcases h with rfl | rfl
    · exact ⟨.poll, rfl⟩
    · exact ⟨.txdone, rfl⟩

/-- What decodes is an encoding up to the unused lane, so it passes the checks an encoding passes. -/
theorem exists_decode_iff_wf (o : OpWord) : (∃ i, decode o = .ok i) ↔ o.wf = true := by
  refine ⟨fun ⟨i, h⟩ => ?_, exists_decode_of_wf⟩
  rw [← canonical_wf, ← encode_of_decode h, encode_wf]

/-- Settles O1, format by format. -/
theorem decodeAndEncodeAgree : Obligations.DecodeAndEncodeAgree :=
  ⟨decode_encode, fun _ _ => encode_of_decode, exists_decode_iff_wf⟩

/-! ## Illegal headers -/

/-- R119's list is the failure of one of the header's checks. -/
theorem illegalHeader_iff_not_wf (hdr : Header) (data : Word) :
    IllegalHeader hdr ↔ ¬ (OpWord.bus hdr data).wf = true := by
  simp only [OpWord.wf, OpWord.sizeOk, OpWord.alignedOk, OpWord.mappedOk, OpWord.readableOk, OpWord.writableOk,
    IllegalHeader, Bool.and_eq_true, beq_iff_eq, Bool.not_eq_true', Bool.or_eq_true, bne_iff_ne,
    List.contains_eq_mem, decide_eq_false_iff_not]
  cases hdr.getLsbD 6 <;> simp only [reduceCtorEq, true_and, false_and] <;> tauto

/-- The illegal headers are those the decoder refuses (R118, R119). -/
theorem illegalHeader_iff_not_decodes (hdr : Header) (data : Word) :
    IllegalHeader hdr ↔ ¬ ∃ i, decodeBus hdr data = .ok i :=
  (illegalHeader_iff_not_wf hdr data).trans (not_congr (exists_decode_iff_wf (.bus hdr data)).symm)

/-- A transaction the decoder refuses is a bus error (R262). -/
theorem hostEffect_of_not_decodes {hdr : Header} {data : Word} (h : ¬ ∃ i, decodeBus hdr data = .ok i) :
    hostEffect hdr data = busError hdr := by
  unfold hostEffect
  cases hd : decodeBus hdr data with
  | ok i => exact absurd ⟨i, hd⟩ h
  | error e => rfl

/-- Settles O2: a header is illegal when a check fails, so when it does not decode, and then it is a bus error. -/
theorem illegalHeadersEndInABusError : Obligations.IllegalHeadersEndInABusError := by
  intro hdr data
  have hdecode := illegalHeader_iff_not_decodes hdr data
  refine ⟨?_, hdecode, fun s d rest h hbad => ?_⟩
  · rw [hdecode, exists_decodeBus_iff_mem]
  · rw [step_of_host_turn h, hostEffect_of_not_decodes (hdecode.1 hbad)]; rfl

/-! ## Command words -/

/-- Settles O3, by which of the four kinds the word is. -/
theorem commandWordsDecode : Obligations.CommandWordsDecode := by
  intro cw
  rw [reservedWord_iff]
  rcases decodeCmd_cases cw with ⟨rfl, hd⟩ | ⟨rfl, hd⟩ | ⟨rfl, hd⟩ | ⟨hbig, hd⟩
  · simp [hd]
  · simp [hd]
  · simp [hd]
  · have hne : ∀ n : Word, n.toNat ≤ 2 → cw ≠ n := by rintro n hn rfl; omega
    simp [hd, hbig, hne]

/-- Settles O4, word by word from the tables. -/
theorem sampleWordsDecode : Obligations.SampleWordsDecode := ⟨rfl, rfl, rfl, rfl, rfl, rfl, rfl, rfl⟩

/-! ## The step a raw operation runs -/

/-- A CTRL write turn runs the operation its data word decodes to as a command (R110, R200). -/
theorem step_of_ctrl_turn {s : State} {cw : Word} {d : Draws} {rest : List Turn} {i : Instr}
    (h : s.turns = .host (writeHeader .ctrl) cw d :: rest) (hd : decode (.cmd cw) = .ok i) :
    step s = exec i (takeTurn s) := by
  obtain ⟨-, hkind⟩ := decode_cmd_ok hd
  rw [step_of_host_turn h, exec_eq_effect, hkind]; rfl

/-- Settles O6: the three words decode to the three commands. -/
theorem ctrlTurnRunsItsCommand : Obligations.CtrlTurnRunsItsCommand := by
  intro s cw d rest h
  refine ⟨?_, ?_, ?_⟩ <;> rintro rfl <;> exact step_of_ctrl_turn h rfl

/-- The step after placing a raw operation runs what it decodes to, in each of the three formats (log 10). -/
theorem step_placeOp_of_decode {o : OpWord} {i : Instr} (h : decode o = .ok i) (s : State) :
    step (placeOp o s) = exec i (takeTurn (placeOp o s)) := by
  obtain ⟨hhost, hblock, -⟩ := stepRunsTheDecodedOperation (placeOp o s)
  cases o with
  | bus hdr data => exact hhost hdr data _ _ i rfl h
  | cmd cw => exact step_of_ctrl_turn (s := placeOp (.cmd cw) s) rfl h
  | int st =>
    obtain ⟨hpoll, htxdone, -⟩ := hblock _ _ (.inl rfl)
    obtain ⟨rfl, rfl⟩ | ⟨rfl, rfl⟩ := decodeInt_ok_cases h
    · exact hpoll rfl
    · exact htxdone rfl

/-- Settles O7: an encoding decodes to its operation. -/
theorem placedOperationRuns : Obligations.PlacedOperationRuns :=
  fun i s => step_placeOp_of_decode (decode_encode i) s

/-- Settles O36: an internal step is guarded by the STATE that enables it. -/
theorem disabledInternalStepsChangeNothing : Obligations.DisabledInternalStepsChangeNothing := by
  intro s
  refine ⟨fun h => ?_, fun h => ?_⟩
  · rw [exec, execPoll, whenEnabled_disabled h]
  · rw [exec, execTxdone, whenEnabled_disabled h]

end Sys2Proof.Machine
end

section
/-! O25 to O31 and O33: what the solver answers, what its configurations satisfy, their encoding, and the split table. -/

namespace Sys2Proof.Machine

/-! ## The solver's tests in the words of the rules -/

/-- A candidate's tests are those of R143 to R145. -/
theorem candidateFits_iff_fits (clk br : Word) (p : Nat) :
    candidateFits clk.toNat br.toNat p = true ↔ Fits clk br p := candidateFits_iff ..

/-- A candidate that fails the search's test fails one of R143 to R145. -/
theorem candidateFits_eq_false_iff_not_fits (clk br : Word) (p : Nat) :
    candidateFits clk.toNat br.toNat p = false ↔ ¬ Fits clk br p := by
  rw [← candidateFits_iff_fits, Bool.not_eq_true]

/-- The search answers the first fit (R142, R146). -/
theorem firstFit_eq_some_iff_firstFit (clk br : Word) (p : Nat) :
    firstFit clk.toNat br.toNat = some p ↔ FirstFit clk br p := by
  simp only [firstFit_eq_some_iff, candidateFits_iff_fits, candidateFits_eq_false_iff_not_fits, FirstFit]

/-- The search fails when no prescaler fits (R147). -/
theorem firstFit_eq_none_iff_no_fit (clk br : Word) :
    firstFit clk.toNat br.toNat = none ↔ ∀ p, 1 ≤ p → p ≤ 1024 → ¬ Fits clk br p := by
  simp only [firstFit_eq_none_iff, candidateFits_eq_false_iff_not_fits]

/-- The argument check passes exactly in the contract (R141). -/
theorem argsBad_eq_false_iff_inContract (clk br sp : Word) : argsBad clk br sp = false ↔ InContract clk br sp :=
  argsBad_eq_false_iff ..

/-- The split is kept exactly when it is valid (R149 to R153). -/
theorem splitAt_eq_config_iff_splitValid (sp p tq q a b : Nat) :
    splitAt sp p tq = .config q a b ↔ q = p ∧ SplitValid sp tq a b := splitAt_eq_config_iff ..

/-- The split fails exactly when no split is valid (R151, R152). -/
theorem splitAt_eq_noSolution_iff (sp p tq : Nat) :
    splitAt sp p tq = .noSolution ↔ ∀ a b, ¬ SplitValid sp tq a b := by
  constructor
  · intro h a b hv
    rw [(splitAt_eq_config_iff_splitValid sp p tq p a b).mpr ⟨rfl, hv⟩] at h
    cases h
  · intro h
    cases hr : splitAt sp p tq with
    | config q a b => exact absurd ((splitAt_eq_config_iff_splitValid ..).mp hr).2 (h a b)
    | noSolution => rfl
    | badArg => exact absurd hr (splitAt_ne_badArg sp p tq)

/-- The solver's answer in the words of the rules (R140): the contract, the first fit, its split. -/
theorem solveFn_spec (clk br sp : Word) :
    (¬ InContract clk br sp ∧ solveFn clk br sp = .badArg) ∨
    (InContract clk br sp ∧ (∀ p, 1 ≤ p → p ≤ 1024 → ¬ Fits clk br p) ∧ solveFn clk br sp = .noSolution) ∨
    (∃ p, InContract clk br sp ∧ FirstFit clk br p ∧
      solveFn clk br sp = splitAt sp.toNat p (clk.toNat / p / br.toNat)) := by
  simpa only [← argsBad_eq_false_iff_inContract, Bool.not_eq_false, ← firstFit_eq_none_iff_no_fit,
    ← firstFit_eq_some_iff_firstFit] using solveFn_cases clk br sp

/-! ## What the solver answers -/

/-- A first fit is the smallest prescaler that fits (R158). -/
theorem FirstFit.le {clk br : Word} {p q : Nat} (h : FirstFit clk br p) (hq : 1 ≤ q) (hfit : Fits clk br q) :
    p ≤ q := by
  obtain ⟨-, -, -, hfirst⟩ := h
  exact not_lt.mp fun hlt => hfirst q hq hlt hfit

/-- There is at most one first fit. -/
theorem FirstFit.unique {clk br : Word} {p q : Nat} (hp : FirstFit clk br p) (hq : FirstFit clk br q) : p = q := by
  have ⟨hp1, _, hpfit, _⟩ := hp
  have ⟨hq1, _, hqfit, _⟩ := hq
  exact Nat.le_antisymm (hp.le hq1 hqfit) (hq.le hp1 hpfit)

/-- At the first fit the solver answers its split. -/
theorem solveFn_of_firstFit {clk br sp : Word} {p : Nat} (hc : InContract clk br sp) (hp : FirstFit clk br p) :
    solveFn clk br sp = splitAt sp.toNat p (clk.toNat / p / br.toNat) := by
  obtain ⟨hn, -⟩ | ⟨-, hnone, -⟩ | ⟨q, -, hq, hr⟩ := solveFn_spec clk br sp
  · exact absurd hc hn
  · obtain ⟨h1, h2, hfit, -⟩ := hp
    exact absurd hfit (hnone p h1 h2)
  · rw [hp.unique hq, hr]

/-- Settles O26: at a first fit the answer is its split. -/
theorem solverAnswersExactlyTheFirstFitSplit : Obligations.SolverAnswersExactlyTheFirstFitSplit := by
  intro clk br sp p a b
  constructor
  · intro h
    obtain ⟨-, hr⟩ | ⟨-, -, hr⟩ | ⟨q, hc, hq, hr⟩ := solveFn_spec clk br sp <;> rw [hr] at h
    · cases h
    · cases h
    · obtain ⟨rfl, hv⟩ := (splitAt_eq_config_iff_splitValid ..).mp h
      exact ⟨hc, hq, hv⟩
  · rintro ⟨hc, hp, hv⟩
    rw [solveFn_of_firstFit hc hp, splitAt_eq_config_iff_splitValid]
    exact ⟨rfl, hv⟩

/-- Settles O27: a failed search and a failed split are the two ways to no solution. -/
theorem solverFailsExactlyWithoutAFirstFitSplit : Obligations.SolverFailsExactlyWithoutAFirstFitSplit := by
  intro clk br sp
  constructor
  · intro h
    obtain ⟨-, hr⟩ | ⟨hc, hnone, -⟩ | ⟨p, hc, hp, hr⟩ := solveFn_spec clk br sp
    · rw [hr] at h; cases h
    · exact ⟨hc, .inl hnone⟩
    · rw [hr, splitAt_eq_noSolution_iff] at h
      exact ⟨hc, .inr ⟨p, hp, h⟩⟩
  · rintro ⟨hc, hnone | ⟨p, hp, hsplit⟩⟩
    · obtain ⟨hn, -⟩ | ⟨-, -, hr⟩ | ⟨p, -, ⟨h1, h2, hfit, -⟩, -⟩ := solveFn_spec clk br sp
      · exact absurd hc hn
      · exact hr
      · exact absurd hfit (hnone p h1 h2)
    · rw [solveFn_of_firstFit hc hp, splitAt_eq_noSolution_iff]
      exact hsplit

/-- Settles O25: the solver rejects exactly when its argument check does. -/
theorem solverRejectsExactlyOutsideItsContract : Obligations.SolverRejectsExactlyOutsideItsContract := by
  intro clk br sp
  rw [solveFn_eq_badArg_iff, ← argsBad_eq_false_iff_inContract, Bool.not_eq_false]

/-! ## What a configuration satisfies -/

/-- The prescaler of a configuration is the first fit. -/
theorem firstFit_of_solveFn {clk br sp : Word} {p a b : Nat} (h : solveFn clk br sp = .config p a b) :
    FirstFit clk br p := by
  obtain ⟨-, hp, -⟩ := (solverAnswersExactlyTheFirstFitSplit clk br sp p a b).mp h
  exact hp

/-- The segments of a configuration are the quanta of its prescaler (R145, R148, R150). -/
theorem quanta_of_solveFn {clk br sp : Word} {p a b : Nat} (h : solveFn clk br sp = .config p a b) :
    1 + a + b = clk.toNat / p / br.toNat := by
  obtain ⟨-, -, hv⟩ := (solverAnswersExactlyTheFirstFitSplit clk br sp p a b).mp h
  obtain ⟨-, hb, -, -, hb1, -⟩ := hv
  omega

/-- Settles O28: the two divisions of the first fit leave no remainder. -/
theorem solvedSegmentsSumExactly : Obligations.SolvedSegmentsSumExactly := by
  intro clk br sp p a b h
  obtain ⟨-, -, -, hq, hclk⟩ := solveFn_config_spec h
  obtain ⟨-, -, ⟨hmod, hscaled, -⟩, -⟩ := firstFit_of_solveFn h
  exact ⟨by rw [quanta_of_solveFn h, Nat.div_div_eq_div_mul], hmod, hscaled, hclk, hq⟩

/-- Settles O29: the search is in ascending order. -/
theorem solvedPrescalerIsTheSmallest : Obligations.SolvedPrescalerIsTheSmallest := by
  intro clk br sp p a b h
  have hfirst := firstFit_of_solveFn h
  have ⟨h1, h2, hfit, _⟩ := hfirst
  exact ⟨h1, h2, hfit, fun q hq _ hqfit => hfirst.le hq hqfit⟩

/-- Settles O30: the smallest divisor leaves the largest quotient. -/
theorem firstFitHasTheMostQuanta : Obligations.FirstFitHasTheMostQuanta := by
  intro clk br sp p a b q h hq1 _ hqfit
  have hfirst := firstFit_of_solveFn h
  have ⟨hp1, _⟩ := hfirst
  rw [quanta_of_solveFn h]
  exact Nat.div_le_div_right (Nat.div_le_div_left (hfirst.le hq1 hqfit) hp1)

/-- The reserved bits of an encoded configuration are 0 (R159). -/
theorem encBtc_config_reserved {p a b : Nat} (hp : p ≤ 1024) (ha : a ≤ 16) (hb : b ≤ 8) :
    (encBtc (.config p a b)).extractLsb' 11 5 = 0#5 ∧ (encBtc (.config p a b)).extractLsb' 21 3 = 0#3 ∧
      (encBtc (.config p a b)).extractLsb' 28 3 = 0#3 := by
  have hword := encBtc_config_toNat (p := p) (a := a) (b := b) (by omega) (by omega) (by omega)
  simp only [← BitVec.toNat_inj, BitVec.extractLsb'_toNat, hword, Nat.shiftRight_eq_div_pow, BitVec.toNat_ofNat]
  omega

/-- Settles O31: the fields of the encoding read back, and nothing stands between them. -/
theorem encodedConfigurationReadsBack : Obligations.EncodedConfigurationReadsBack := by
  refine ⟨⟨rfl, rfl⟩, fun p a b hp ha hb => ?_⟩
  obtain ⟨hprescaler, hps1, hps2, hvalid⟩ := btc_fields_encBtc hp ha hb
  exact ⟨hprescaler, hps1, hps2, hvalid, encBtc_config_reserved hp ha hb⟩

/-! ## The split table -/

/-- Some split is kept exactly when the split does not fail. -/
theorem exists_splitAt_eq_config_iff (sp p tq : Nat) :
    (∃ a b, splitAt sp p tq = .config p a b) ↔ splitAt sp p tq ≠ .noSolution := by
  simp only [ne_eq, splitAt_eq_noSolution_iff, splitAt_eq_config_iff_splitValid, true_and, not_forall, not_not]

/-- One or two quanta have no room for both phase segments (R161). -/
theorem splitAt_of_quanta_le_two {sp p tq : Nat} (htq : tq ≤ 2) : splitAt sp p tq = .noSolution := by
  rw [splitAt_eq_noSolution_iff]
  rintro a b ⟨-, hb, ha1, -, hb1, -⟩
  omega

/-- Settles O33: the rows by evaluation, the quanta below the table from the bounds of the segments. -/
theorem splitTableHolds : Obligations.SplitTableHolds := by
  intro row hrow
  simp only [exists_splitAt_eq_config_iff]
  refine ⟨?_, ?_, ?_, fun _ _ _ => ⟨splitAt_of_quanta_le_two (by omega), splitAt_of_quanta_le_two le_rfl⟩⟩ <;>
    (revert row; decide +kernel)

end Sys2Proof.Machine
end

section
/-! O32: the `n`-bit datapath, part by part (R156). -/

namespace Sys2Proof.Machine

/-! ## The parts of the datapath -/

/-- The datapath's argument check. -/
def datapathArgsBad {n : Nat} (clk br sp : BitVec n) : Bool :=
  clk == 0#n || br == 0#n || decide (sp < BitVec.ofNat n 1) || decide (BitVec.ofNat n 99 < sp)

/-- The datapath's tests of candidate `p`. -/
def datapathFits {n : Nat} (clk br : BitVec n) (p : Nat) : Bool :=
  clk % BitVec.ofNat n p == 0#n && clk / BitVec.ofNat n p % br == 0#n &&
    decide (clk / BitVec.ofNat n p / br ≤ BitVec.ofNat n 25)

/-- The datapath's phase segment 1 of `sq` segment quanta. -/
def datapathPs1 {n : Nat} (sp sq : BitVec n) : BitVec n := (sp * sq + BitVec.ofNat n 50) / BitVec.ofNat n 100

/-- The datapath's split of `sq` segment quanta at prescaler `p`. -/
def datapathSplit {n : Nat} (sp : BitVec n) (p : Nat) (sq : BitVec n) : SolveResult :=
  if datapathPs1 sp sq == 0#n || decide (BitVec.ofNat n 16 < datapathPs1 sp sq) ||
      sq - datapathPs1 sp sq == 0#n || decide (BitVec.ofNat n 8 < sq - datapathPs1 sp sq) then .noSolution
  else .config p (datapathPs1 sp sq).toNat (sq - datapathPs1 sp sq).toNat

/-- The datapath is its argument check, its search and its split. -/
theorem solveDatapath_eq (n : Nat) (clk br sp : BitVec n) : solveDatapath n clk br sp =
    if datapathArgsBad clk br sp then .badArg
    else match candidates.find? (datapathFits clk br) with
      | none => .noSolution
      | some p => datapathSplit sp p (clk / BitVec.ofNat n p / br - BitVec.ofNat n 1) := rfl

/-- A clock that is not 0 has at least one quantum at a prescaler that fits. -/
theorem quanta_pos {clk br : Word} {p : Nat} (hclk : clk ≠ 0#32) (h : candidateFits clk.toNat br.toNat p = true) :
    1 ≤ clk.toNat / p / br.toNat := by
  obtain ⟨hmod, hscaled, -⟩ := (candidateFits_iff ..).mp h
  refine Nat.one_le_iff_ne_zero.mpr fun hzero => hclk ((word_eq_zero_iff clk).mpr ?_)
  rw [← Nat.mul_div_cancel' (Nat.dvd_of_mod_eq_zero hmod), ← Nat.div_mul_cancel (Nat.dvd_of_mod_eq_zero hscaled), hzero,
    Nat.zero_mul, Nat.mul_zero]

/-- Phase segment 1 takes no more than the segment quanta (R149). -/
theorem phaseSegment1_le {sp sq : Nat} (hsp : sp ≤ 99) : phaseSegment1 sp sq ≤ sq := by
  have hprod : sp * sq ≤ 99 * sq := Nat.mul_le_mul_right sq hsp
  rw [phaseSegment1, Config.roundBias, Config.roundDiv]
  omega

/-- An `n`-bit value is 0 exactly when its natural number is. -/
theorem beq_zero_eq_toNat {n : Nat} (v : BitVec n) : (v == 0#n) = (v.toNat == 0) := by
  rw [Bool.eq_iff_iff, beq_iff_eq, beq_iff_eq, ← BitVec.toNat_inj]; simp

/-! ## A datapath of at least 32 bits -/

section Wide

variable {n : Nat} (hn : 32 ≤ n)
include hn

/-- A constant of at most 32 bits keeps its value in a datapath that wide. -/
theorem ofNat_toNat_of_wide {c : Nat} (hc : c < 2 ^ 32) : (BitVec.ofNat n c).toNat = c := by
  rw [BitVec.toNat_ofNat, Nat.mod_eq_of_lt (hc.trans_le (Nat.pow_le_pow_right (by omega) hn))]

/-- A word keeps its value in a datapath of at least its width. -/
theorem setWidth_toNat_of_wide (v : Word) : (v.setWidth n).toNat = v.toNat := by
  rw [BitVec.toNat_setWidth, Nat.mod_eq_of_lt (v.isLt.trans_le (Nat.pow_le_pow_right (by omega) hn))]

/-- The wide argument check is that of SOLVE_FN (R141). -/
theorem datapathArgsBad_eq (clk br sp : Word) :
    datapathArgsBad (clk.setWidth n) (br.setWidth n) (sp.setWidth n) = argsBad clk br sp := by
  simp only [datapathArgsBad, argsBad, beq_zero_eq_toNat, BitVec.lt_def, setWidth_toNat_of_wide hn,
    ofNat_toNat_of_wide hn (c := 1) (by omega), ofNat_toNat_of_wide hn (c := 99) (by omega)]

/-- The wide tests are those of SOLVE_FN (R143 to R145). -/
theorem datapathFits_eq (clk br : Word) {p : Nat} (hp : p ≤ 1024) :
    datapathFits (clk.setWidth n) (br.setWidth n) p = candidateFits clk.toNat br.toNat p := by
  rw [Bool.eq_iff_iff, candidateFits_iff]
  simp only [datapathFits, Bool.and_eq_true, beq_iff_eq, decide_eq_true_eq, and_assoc, beq_zero_eq_toNat,
    BitVec.le_def, BitVec.toNat_umod, BitVec.toNat_udiv, setWidth_toNat_of_wide hn,
    ofNat_toNat_of_wide hn (c := p) (by omega), ofNat_toNat_of_wide hn (c := 25) (by omega)]

/-- The wide search finds what that of SOLVE_FN finds (R142). -/
theorem find?_datapathFits_eq (clk br : Word) :
    candidates.find? (datapathFits (clk.setWidth n) (br.setWidth n)) = firstFit clk.toNat br.toNat :=
  List.find?_congr fun p hp => datapathFits_eq hn clk br ((mem_candidates p).mp hp).2

/-- The wide segment quanta do not wrap at a prescaler with at least one quantum (R144, R145, R148). -/
theorem wide_segmentQuanta_toNat (clk br : Word) {p : Nat} (hp : p ≤ 1024) (htq : 1 ≤ clk.toNat / p / br.toNat) :
    (clk.setWidth n / BitVec.ofNat n p / br.setWidth n - BitVec.ofNat n 1).toNat =
      segmentQuanta (clk.toNat / p / br.toNat) := by
  have hone := ofNat_toNat_of_wide hn (c := 1) (by omega)
  have hquanta : (clk.setWidth n / BitVec.ofNat n p / br.setWidth n).toNat = clk.toNat / p / br.toNat := by
    simp only [BitVec.toNat_udiv, setWidth_toNat_of_wide hn, ofNat_toNat_of_wide hn (c := p) (by omega)]
  rw [BitVec.toNat_sub_of_le (by rwa [BitVec.le_def, hone, hquanta]), hone, hquanta, segmentQuanta]

/-- The wide phase segment 1 does not overflow (R149). -/
theorem datapathPs1_toNat {sp sq : BitVec n} (hsp : sp.toNat ≤ 99) (hsq : sq.toNat ≤ 24) :
    (datapathPs1 sp sq).toNat = phaseSegment1 sp.toNat sq.toNat := by
  have hpow : 2 ^ 32 ≤ 2 ^ n := Nat.pow_le_pow_right (by omega) hn
  have hprod : sp.toNat * sq.toNat ≤ 99 * 24 := Nat.mul_le_mul hsp hsq
  have hmul : (sp * sq).toNat = sp.toNat * sq.toNat := by rw [BitVec.toNat_mul, Nat.mod_eq_of_lt (by omega)]
  rw [datapathPs1, BitVec.toNat_udiv, BitVec.toNat_add, hmul, ofNat_toNat_of_wide hn (by omega),
    ofNat_toNat_of_wide hn (by omega), Nat.mod_eq_of_lt (by omega), phaseSegment1]

/-- The wide split is that of SOLVE_FN (R148 to R153). -/
theorem datapathSplit_eq {sp sq : BitVec n} {p tq : Nat} (hsp : sp.toNat ≤ 99) (htq : tq ≤ 25)
    (hsq : sq.toNat = segmentQuanta tq) : datapathSplit sp p sq = splitAt sp.toNat p tq := by
  have hps1 : (datapathPs1 sp sq).toNat = phaseSegment1 sp.toNat (segmentQuanta tq) := by
    rw [datapathPs1_toNat hn hsp (by rw [hsq, segmentQuanta, Config.syncQ]; omega), hsq]
  have hps2 : (sq - datapathPs1 sp sq).toNat = phaseSegment2 sp.toNat (segmentQuanta tq) := by
    rw [BitVec.toNat_sub_of_le (by rw [BitVec.le_def, hps1, hsq]; exact phaseSegment1_le hsp), hps1, hsq, phaseSegment2]
  simp only [datapathSplit, splitAt, splitFits, beq_zero_eq_toNat, BitVec.lt_def, hps1, hps2,
    ofNat_toNat_of_wide hn (c := 16) (by omega), ofNat_toNat_of_wide hn (c := 8) (by omega), Config.ps1Max, Config.ps2Max,
    Bool.not_eq_true', ← Bool.not_eq_true, ite_not]

end Wide

/-- Settles O32: each part of the datapath gives the value of the solver's part, and none of them wraps. -/
theorem wideDatapathMatchesTheSolver : Obligations.WideDatapathMatchesTheSolver := by
  intro n clk br sp hn
  rw [solveDatapath_eq, datapathArgsBad_eq hn, find?_datapathFits_eq hn]
  rcases solveFn_cases clk br sp with ⟨hbad, hr⟩ | ⟨hgood, hnone, hr⟩ | ⟨p, hgood, hp, hr⟩ <;> rw [hr]
  · rw [if_pos hbad]
  · rw [hgood, hnone]; rfl
  · obtain ⟨hclk, -, -, hsp⟩ := (argsBad_eq_false_iff ..).mp hgood
    obtain ⟨-, hp2, hfit, -⟩ := (firstFit_eq_some_iff ..).mp hp
    obtain ⟨-, -, htq⟩ := (candidateFits_iff ..).mp hfit
    have hsp' := setWidth_toNat_of_wide hn sp
    have hsq := wide_segmentQuanta_toNat hn clk br hp2 (quanta_pos hclk hfit)
    rw [hgood, hp, ← hsp']
    exact datapathSplit_eq hn (hsp'.trans_le hsp) htq hsq

end Sys2Proof.Machine
end

section
/-! O45, O46 and O52: FRAME_COUNTER, the transmissions a trace confirms, and the frames that carry their number. -/

namespace Sys2Proof.Machine

/-! ## FRAME_COUNTER and the confirmed transmissions -/

/-- A command leaves FRAME_COUNTER, or it is a START that clears it and enters AWAIT (R211). -/
theorem runCommand_frameCounter (c : Command) (s : State) :
    (runCommand c s).frameCounter = s.frameCounter ∨
    ((runCommand c s).frameCounter = 0#64 ∧ (runCommand c s).status.state = .await) := by
  rcases runCommand_outcomes c s with ⟨-, hr⟩ | ⟨-, hr⟩ | ⟨-, -, hr⟩ | ⟨-, -, -, hr⟩ |
    ⟨p, a, b, -, -, -, -, hr⟩ | ⟨p, a, b, -, -, -, -, hr⟩ | ⟨-, hr⟩ <;> rw [hr]
  · exact .inl rfl
  · exact .inl rfl
  · exact .inl rfl
  · exact .inl rfl
  · exact .inl rfl
  · exact .inr ⟨rfl, rfl⟩
  · exact .inl rfl

/-- A move of the block in TRANSMIT is a TXDONE (R116). -/
theorem step_block_transmit {s t : State} {d : Draws} (h : step s = .next t) (hs : s.status.state = .transmit)
    (hn : nextTurn s = .block d) : t = txdoneEffect (takeTurn s) := by
  rw [step_eq_turnEffect, hn, hs, Host.Outcome.next.injEq] at h
  exact h.symm

/-- Settles O52, by the branches of a step: TXDONE counts its answer, START and reset clear, and the rest leave it. -/
theorem frameCounterAdvancesOnConfirmationOnly : Obligations.FrameCounterAdvancesOnConfirmationOnly := by
  intro s t h
  refine ⟨?_, ?_⟩
  · rintro hs ⟨d, hn⟩ ha
    rw [step_block_transmit h hs hn, txdoneEffect_frameCounter, ha]; rfl
  rcases step_outcomes h with ⟨v, d, -, hs, rfl⟩ | ⟨c, v, d, -, -, rfl⟩ | ⟨r, v, d, -, -, -, rfl⟩ |
    ⟨c, v, d, -, rfl⟩ | ⟨hdr, v, d, e, -, -, rfl⟩ | ⟨d, -, -, -, rfl⟩ | ⟨d, -, -, -, rfl⟩ | ⟨d, hn, hs, rfl⟩ |
    ⟨d, -, -, rfl⟩ | ⟨hn, rfl⟩
  · rcases runCommand_frameCounter (decodeCmd v) (State.respond (writeHeader .ctrl) 0#32 (takeTurn s)) with
      hc | ⟨hc, ht⟩
    · exact .inl hc
    · exact .inr (.inr (.inl ⟨hc, hs, ht⟩))
  · exact .inl (by simp)
  · exact .inl rfl
  · exact .inl rfl
  · exact .inl rfl
  · exact .inl rfl
  · exact .inl rfl
  · cases ha : transmitAnswer (takeTurn s) with
    | ok => exact .inr (.inl ⟨by rw [txdoneEffect_frameCounter, ha]; rfl, hs, rfl, rfl, d, hn⟩)
    | err => exact .inl (by rw [txdoneEffect_frameCounter, ha]; rfl)
  · exact .inl rfl
  · exact .inr (.inr (.inr ⟨rfl, hn⟩))

/-- The count reads STATE, FRAME_COUNTER and the confirmed transmissions alone. -/
theorem CountsConfirmed.congr {s t : State} (h : CountsConfirmed s) (hstate : t.status.state = s.status.state)
    (hcounter : t.frameCounter = s.frameCounter) (hconfirmed : confirmed t.trace = confirmed s.trace) :
    CountsConfirmed t := by
  rwa [CountsConfirmed, State.running, hstate, hcounter, hconfirmed]

/-- Outside AWAIT and TRANSMIT there is nothing to count. -/
theorem CountsConfirmed.of_unstarted {s : State} (hs : s.unstarted) : CountsConfirmed s := by
  rintro (h | h) <;> rw [State.unstarted, h] at hs <;> simp at hs

/-- A bus response confirms no transmission. -/
theorem CountsConfirmed.emit_busResp {s : State} (h : CountsConfirmed s) (hdr : Header) (v : Word) (r : BusReply) :
    CountsConfirmed (s.emit (.busResp hdr v r)) :=
  h.congr rfl rfl (confirmed_append ..)

/-- A configuration register stored confirms nothing. -/
theorem CountsConfirmed.setConfig {s : State} (h : CountsConfirmed s) (c : ConfigReg) (v : Word) :
    CountsConfirmed (setConfig c v s) :=
  h.congr (by simp) (by simp) (by simp)

/-- A command in IDLE enters the schedule with FRAME_COUNTER and the count both at 0, or not at all (R211). -/
theorem CountsConfirmed.runCommand {s : State} (hs : s.status.state = .idle) (c : Command) :
    CountsConfirmed (runCommand c s) := by
  rcases runCommand_outcomes c s with ⟨-, hr⟩ | ⟨-, hr⟩ | ⟨-, -, hr⟩ | ⟨-, -, -, hr⟩ |
    ⟨p, a, b, -, -, -, -, hr⟩ | ⟨p, a, b, -, -, -, -, hr⟩ | ⟨-, hr⟩ <;> rw [hr]
  · exact .of_unstarted (.inl hs)
  · exact .of_unstarted (.inl hs)
  · exact .of_unstarted (.inl hs)
  · exact .of_unstarted (.inr rfl)
  · exact .of_unstarted (.inr rfl)
  · intro _
    rw [startSchedule_trace, confirmed_append]; rfl
  · exact .of_unstarted (.inl hs)

/-- Raising DBG and requesting a transmit confirm nothing yet (R182). -/
theorem CountsConfirmed.pollFire {s : State} (h : CountsConfirmed s) (hs : s.status.state = .await) :
    CountsConfirmed (pollFire s) := by
  intro _
  rw [pollFire_frameCounter, h (.inl hs), pollFire_trace, List.append_assoc, confirmed_append]; rfl

/-- The register and the reading of the trace count one answer alike (R181). -/
theorem countAnswer_ofNat (a : HpiAnswer) (n : Nat) :
    countAnswer a (BitVec.ofNat 64 n) = BitVec.ofNat 64 (confirmedStep n (.hpiTransmitAns a)) := by
  cases a with
  | ok => exact (BitVec.ofNat_add n 1).symm
  | err => rfl

/-- TXDONE counts the answer it emits (R180, R187). -/
theorem CountsConfirmed.txdoneEffect {s : State} (h : CountsConfirmed s) (hs : s.status.state = .transmit) :
    CountsConfirmed (txdoneEffect s) := by
  intro _
  rw [txdoneEffect_frameCounter, h (.inr hs), countAnswer_ofNat, txdoneEffect_trace, List.append_assoc,
    confirmed_append]; rfl

/-- Settles O45, by the branches of a step: one rule above for each that emits an event or enters the schedule. -/
theorem counterCountsConfirmedTransmissions : Obligations.CounterCountsConfirmedTransmissions := by
  intro s t h hstep
  have htake : CountsConfirmed (takeTurn s) := h.congr rfl rfl rfl
  have hsample : CountsConfirmed (pollSample (takeTurn s)) := htake.congr rfl rfl rfl
  rcases step_outcomes hstep with ⟨v, d, -, hs, rfl⟩ | ⟨c, v, d, -, -, rfl⟩ | ⟨r, v, d, -, -, -, rfl⟩ |
    ⟨c, v, d, -, rfl⟩ | ⟨hdr, v, d, e, -, -, rfl⟩ | ⟨d, -, -, -, rfl⟩ | ⟨d, -, hs, -, rfl⟩ | ⟨d, -, hs, rfl⟩ |
    ⟨d, -, -, rfl⟩ | ⟨-, rfl⟩
  · exact .runCommand (by simpa using hs) _
  · exact (htake.emit_busResp _ _ _).setConfig c v
  · exact (htake.emit_busResp _ _ _).congr rfl rfl rfl
  · exact htake.emit_busResp _ _ _
  · exact htake.emit_busResp _ _ _
  · exact hsample
  · exact hsample.pollFire hs
  · exact htake.txdoneEffect hs
  · exact htake
  · exact .of_unstarted (.inl rfl)

/-! ## The number a requested frame carries -/

/-- A trace that grows stays numbered if its new requests are: a request in it is an old one or a new one. -/
theorem FramesNumbered.append {s t : State} (h : FramesNumbered s) (hargs : t.args = s.args) {es : List Event}
    (htr : t.trace = s.trace ++ es)
    (hes : ∀ pre f post, es = pre ++ .hpiTransmitReq f :: post → f.payload =
      payload s.args.payloadOrder (BitVec.ofNat 64 (confirmed (s.trace ++ pre))) f.dataLength.toNat) :
    FramesNumbered t := by
  intro pre f post hsplit
  rw [hargs]
  rw [htr] at hsplit
  rcases List.append_eq_append_iff.mp hsplit with ⟨mid, rfl, hnew⟩ | ⟨mid, hold, hrest⟩
  · exact hes mid f post hnew
  · cases mid with
    | nil =>
      obtain rfl : s.trace = pre := by simpa using hold
      simpa using hes [] f post hrest.symm
    | cons e mid =>
      obtain ⟨rfl, -⟩ := List.cons.inj hrest
      exact h pre f mid hold

/-- Events with no transmit request among them keep every frame numbered. -/
theorem FramesNumbered.append_no_request {s t : State} (h : FramesNumbered s) (hargs : t.args = s.args)
    {es : List Event} (htr : t.trace = s.trace ++ es) (hes : ∀ f, Event.hpiTransmitReq f ∉ es) : FramesNumbered t :=
  h.append hargs htr fun pre f post hsplit => absurd (by simp [hsplit]) (hes f)

/-- The numbers of the frames read PAYLOAD_ORDER and the trace alone. -/
theorem FramesNumbered.congr {s t : State} (h : FramesNumbered s) (hargs : t.args = s.args)
    (htrace : t.trace = s.trace) : FramesNumbered t := by
  rwa [FramesNumbered, hargs, htrace]

/-- A bus response requests no frame. -/
theorem FramesNumbered.emit_busResp {s : State} (h : FramesNumbered s) (hdr : Header) (v : Word) (r : BusReply) :
    FramesNumbered (s.emit (.busResp hdr v r)) :=
  h.append_no_request rfl rfl (by simp)

/-- A configuration register stored requests nothing (R220). -/
theorem FramesNumbered.setConfig {s : State} (h : FramesNumbered s) (c : ConfigReg) (v : Word) :
    FramesNumbered (setConfig c v s) :=
  h.congr (by simp) (by simp)

/-- No command requests a transmit: START deals with the HPI's configuration alone (R208 to R213). -/
theorem FramesNumbered.runCommand {s : State} (h : FramesNumbered s) (c : Command) :
    FramesNumbered (runCommand c s) := by
  rcases runCommand_outcomes c s with ⟨-, hr⟩ | ⟨-, hr⟩ | ⟨-, -, hr⟩ | ⟨-, -, -, hr⟩ |
    ⟨p, a, b, -, -, -, -, hr⟩ | ⟨p, a, b, -, -, -, -, hr⟩ | ⟨-, hr⟩ <;> rw [hr]
  · exact h
  · exact h.congr rfl rfl
  · exact h.congr rfl rfl
  · exact h.append_no_request rfl (es := [.hpiInit]) rfl (by simp)
  · exact h.append_no_request rfl rfl (by simp)
  · exact h.append_no_request rfl rfl (by simp)
  · exact h.congr rfl rfl

/-- A request of a frame that carries the count so far keeps every frame numbered. -/
theorem FramesNumbered.emit_request {s : State} (h : FramesNumbered s) {f : Frame}
    (hf : f.payload = payload s.args.payloadOrder (BitVec.ofNat 64 (confirmed s.trace)) f.dataLength.toNat) :
    FramesNumbered (s.emit (.hpiTransmitReq f)) := by
  refine h.append rfl rfl fun pre g post hsplit => ?_
  obtain ⟨rfl, rfl⟩ : pre = [] ∧ f = g := by
    cases pre with
    | nil => exact ⟨rfl, Event.hpiTransmitReq.inj (List.cons.inj hsplit).1⟩
    | cons e pre => simp at hsplit
  rwa [List.append_nil]

/-- A firing POLL requests the frame of FRAME_COUNTER, which holds the confirmed transmissions (R175, R177, R187). -/
theorem FramesNumbered.pollFire {s : State} (h : FramesNumbered s) (hcount : CountsConfirmed s)
    (hs : s.status.state = .await) : FramesNumbered (pollFire s) := by
  have hrise : FramesNumbered (s.emit .dbgRise) := h.append_no_request rfl rfl (by simp)
  have hconfirmed : confirmed (s.emit .dbgRise).trace = confirmed s.trace := confirmed_append ..
  exact (hrise.emit_request (f := frameFor s.frameCounter s) (by
    rw [hconfirmed, ← hcount (.inl hs)]; rfl)).congr rfl rfl

/-- Settles O46, by the branches of a step: only a firing POLL requests a frame. -/
theorem framesCarryTheConfirmedCount : Obligations.FramesCarryTheConfirmedCount := by
  intro s t hcount h hstep
  have htake : FramesNumbered (takeTurn s) := h.congr rfl rfl
  rcases step_outcomes hstep with ⟨v, d, -, -, rfl⟩ | ⟨c, v, d, -, -, rfl⟩ | ⟨r, v, d, -, -, -, rfl⟩ |
    ⟨c, v, d, -, rfl⟩ | ⟨hdr, v, d, e, -, -, rfl⟩ | ⟨d, -, -, -, rfl⟩ | ⟨d, -, hs, -, rfl⟩ | ⟨d, -, -, rfl⟩ |
    ⟨d, -, -, rfl⟩ | ⟨-, rfl⟩
  · exact (htake.emit_busResp _ _ _).runCommand _
  · exact (htake.emit_busResp _ _ _).setConfig c v
  · exact (htake.emit_busResp _ _ _).congr rfl rfl
  · exact htake.emit_busResp _ _ _
  · exact htake.emit_busResp _ _ _
  · exact htake.congr rfl rfl
  · exact FramesNumbered.pollFire (s := pollSample (takeTurn s)) (htake.congr rfl rfl) (hcount.congr rfl rfl rfl) hs
  · exact htake.append_no_request rfl (List.append_assoc ..) (by simp)
  · exact htake
  · exact htake.append_no_request rfl rfl (by simp)

end Sys2Proof.Machine
end

section
/-! O34, O35, O37, O38, O40 and O41: elapsed ticks, payloads, and what POLL and TXDONE do. -/

namespace Sys2Proof.Machine

/-! ## Elapsed ticks -/

/-- The W-bit difference is taken before or after the cut to W bits alike (R171). -/
theorem elapsedTicks_toNat {w : Nat} (hw : w ≤ 32) (now : Word) {last : Word} (hlast : last.toNat < 2 ^ w) :
    (elapsedTicks w now last).toNat = (now.toNat + 2 ^ w - last.toNat) % 2 ^ w := by
  obtain ⟨k, hk⟩ : ∃ k, 2 ^ 32 = 2 ^ w + 2 ^ w * k :=
    ⟨2 ^ (32 - w) - 1, by
      rw [Nat.mul_sub_one, ← pow_add, Nat.add_sub_cancel' hw, Nat.add_sub_cancel' (pow_le_pow_right₀ (by decide) hw)]⟩
  have hdvd : 2 ^ w ∣ 2 ^ 32 := pow_dvd_pow 2 hw
  have hle : (now - last).toNat % 2 ^ w < 2 ^ 32 := (Nat.mod_le ..).trans_lt (now - last).isLt
  calc (elapsedTicks w now last).toNat
      = (2 ^ 32 - last.toNat + now.toNat) % 2 ^ w := by
        rw [elapsedTicks, wBits, BitVec.toNat_ofNat, Nat.mod_eq_of_lt hle, BitVec.toNat_sub, Nat.mod_mod_of_dvd _ hdvd]
    _ = (now.toNat + 2 ^ w - last.toNat + 2 ^ w * k) % 2 ^ w := by congr 1; omega
    _ = (now.toNat + 2 ^ w - last.toNat) % 2 ^ w := Nat.add_mul_mod_self_left ..

/-- A counter that has run on for fewer than `n` ticks shows how many, modulo `n`. -/
theorem mod_add_sub_mod_eq {n c ticks : Nat} (h : ticks < n) : ((c + ticks) % n + n - c % n) % n = ticks := by
  have hc : c % n < n := Nat.mod_lt _ (by omega)
  rw [Nat.add_mod c, Nat.mod_eq_of_lt h]
  by_cases hwrap : c % n + ticks < n
  · rw [Nat.mod_eq_of_lt hwrap, show c % n + ticks + n - c % n = ticks + n by omega, Nat.add_mod_right,
      Nat.mod_eq_of_lt h]
  · have hpast : (c % n + ticks) % n = c % n + ticks - n := by
      rw [Nat.mod_eq_sub_mod (by omega), Nat.mod_eq_of_lt (by omega)]
    rw [hpast, show c % n + ticks - n + n - c % n = ticks by omega, Nat.mod_eq_of_lt h]

/-- A W-bit counter value fits a word. -/
theorem ofNat_mod_two_pow_toNat {w : Nat} (hw : w ≤ 32) (c : Nat) :
    (BitVec.ofNat 32 (c % 2 ^ w)).toNat = c % 2 ^ w := by
  have hlt : c % 2 ^ w < 2 ^ w := Nat.mod_lt _ (Nat.two_pow_pos w)
  rw [BitVec.toNat_ofNat, Nat.mod_eq_of_lt (hlt.trans_le (Nat.pow_le_pow_right (by decide) hw))]

/-- The W-bit samples of a counter before and after fewer than 2^W ticks differ by those ticks (R191). -/
theorem elapsedTicks_of_ticks {w : Nat} (hw : w ≤ 32) (c : Nat) {ticks : Nat} (h : ticks < 2 ^ w) :
    (elapsedTicks w (BitVec.ofNat 32 ((c + ticks) % 2 ^ w)) (BitVec.ofNat 32 (c % 2 ^ w))).toNat = ticks := by
  have hlast := ofNat_mod_two_pow_toNat hw c
  rw [elapsedTicks_toNat hw _ (hlast.trans_lt (Nat.mod_lt _ (Nat.two_pow_pos w))), hlast,
    ofNat_mod_two_pow_toNat hw, mod_add_sub_mod_eq h]

/-- Settles O38: the wraparound is one tick after 2^W − 1. -/
theorem elapsedIsTheTrueTickCount : Obligations.ElapsedIsTheTrueTickCount := by
  intro w hw2 hw
  have hone : 1 < 2 ^ w := Nat.one_lt_two_pow (by omega)
  refine ⟨fun c ticks h => elapsedTicks_of_ticks hw c h, ?_⟩
  have hwrap := elapsedTicks_of_ticks hw (2 ^ w - 1) hone
  rwa [Nat.sub_add_cancel hone.le, Nat.mod_self, Nat.mod_eq_of_lt (Nat.sub_lt (by omega) (by omega))] at hwrap

/-! ## Payloads -/

/-- The BE payload is the LE payload read from its other end (R177). -/
theorem payload_be_eq_reverse (c : BitVec 64) (n : Nat) : payload .be c n = (payload .le c n).reverse :=
  List.ext_getElem (by simp [payload]) fun i _ _ => by simp [payload]

/-- One more byte is one more digit, base 256. -/
theorem payload_le_succ (c : BitVec 64) (n : Nat) : payload .le c (n + 1) = payload .le c n ++ [counterByte c n] := by
  simp [payload, List.range_succ]

/-- A payload of data length `n` has `n` bytes, in either order (R177). -/
@[simp] theorem payload_length (order : PayloadOrder) (c : BitVec 64) (n : Nat) : (payload order c n).length = n := by
  cases order <;> simp [payload]

/-- Byte `k` of the counter is its digit `k`, base 256. -/
theorem counterByte_toNat (c : BitVec 64) (k : Nat) : (counterByte c k).toNat = c.toNat / 256 ^ k % 256 := by
  rw [counterByte, BitVec.extractLsb'_toNat, Nat.shiftRight_eq_div_pow, pow_mul]; rfl

/-- The LE payload's bytes are the digits of the counter, base 256 (R177). -/
theorem ofDigits_payload_le (c : BitVec 64) (n : Nat) :
    Nat.ofDigits 256 ((payload .le c n).map BitVec.toNat) = c.toNat % 256 ^ n := by
  induction n with
  | zero => simp [payload, Nat.mod_one]
  | succ n ih =>
    rw [payload_le_succ, List.map_append, Nat.ofDigits_append, ih, List.length_map, payload_length, List.map_singleton,
      Nat.ofDigits_singleton, counterByte_toNat, pow_succ, Nat.mod_mul]

/-- Settles O40; the bound on `n` is not needed, as the counter's bytes above the eighth are 0. -/
theorem payloadCarriesTheLowBytes : Obligations.PayloadCarriesTheLowBytes := by
  intro c n _
  exact ⟨payload_length .le c n, by rw [ofDigits_payload_le, pow_mul]; rfl, payload_be_eq_reverse c n⟩

/-! ## POLL and TXDONE -/

/-- POLL in AWAIT is its effect. -/
theorem exec_poll {s : State} (hs : s.status.state = .await) : exec .poll s = .next (pollEffect s) := by
  rw [exec, execPoll, whenEnabled_enabled hs]

/-- TXDONE in TRANSMIT is its effect. -/
theorem exec_txdone {s : State} (hs : s.status.state = .transmit) : exec .txdone s = .next (txdoneEffect s) := by
  rw [exec, execTxdone, whenEnabled_enabled hs]

/-- No elapsed time is below an INTERVAL of 0 (R190). -/
theorem pollEffect_of_interval_zero {s : State} (h : s.interval = 0#32) : pollEffect s = pollFire (pollSample s) :=
  if_neg (by rw [h]; exact BitVec.not_lt_zero)

/-- What a firing POLL leaves (R174 to R179). -/
theorem pollFire_pollSample (s : State) : pollFire (pollSample s) = { s with
    now := sampleCounter s, elapsed := elapsedTicks s.args.w (sampleCounter s) s.lastTick
    lastTick := sampleCounter s, pending := some (frameFor s.frameCounter s)
    status := { s.status with dbg := true, state := .transmit }
    trace := s.trace ++ [.dbgRise, .hpiTransmitReq (frameFor s.frameCounter s)] } := by
  simp [pollFire, pollSample, State.setDbg, State.emit, State.setState, frameFor]

/-- What TXDONE leaves (R180 to R184). -/
theorem txdoneEffect_eq (s : State) : txdoneEffect s = { s with
    frameCounter := countAnswer (transmitAnswer s) s.frameCounter, pending := none
    status := { s.status with dbg := false, state := .await }
    trace := s.trace ++ [.hpiTransmitAns (transmitAnswer s), .dbgFall] } := by
  simp [txdoneEffect, State.setDbg, State.emit, State.setState]

/-- Settles O34: ELAPSED is `e`, and POLL compares it with INTERVAL. -/
theorem pollWaitsOrFires : Obligations.PollWaitsOrFires := by
  intro s e hs hw hlast he
  obtain ⟨-, hw⟩ := hw
  have htoNat : (elapsedTicks s.args.w (sampleCounter s) s.lastTick).toNat = e := by
    rw [elapsedTicks_toNat hw _ hlast, he]
  have helapsed : elapsedTicks s.args.w (sampleCounter s) s.lastTick = BitVec.ofNat 32 e := by
    rw [← htoNat, BitVec.ofNat_toNat, BitVec.setWidth_eq]
  have hlt : (pollSample s).elapsed < s.interval ↔ e < s.interval.toNat := by
    rw [BitVec.lt_def, pollSample_elapsed, htoNat]
  rw [exec_poll hs, ← helapsed]
  refine ⟨fun hwait => ?_, fun hfire f hid hext hlen hpay => ?_⟩
  · rw [pollEffect, if_pos (hlt.mpr hwait)]; rfl
  · obtain rfl : f = frameFor s.frameCounter s := by
      rw [frameFor, frameIdent, frameIde, ← hpay, ← hid, ← hext, ← hlen]
    rw [pollEffect, if_neg (hlt.not.mpr hfire.not_gt), pollFire_pollSample]

/-- Settles O35, one answer each. -/
theorem txdoneCountsOnlySuccess : Obligations.TxdoneCountsOnlySuccess := by
  intro s hs
  rw [exec_txdone hs, txdoneEffect_eq]
  refine ⟨fun ha => ?_, fun ha => ?_⟩ <;> rw [ha]
  · have hcount : countAnswer .ok s.frameCounter = BitVec.ofNat 64 ((s.frameCounter.toNat + 1) % 2 ^ 64) :=
      BitVec.eq_of_toNat_eq (by simp [countAnswer])
    rw [hcount]
  · rfl

/-- Settles O37: such a POLL is a firing one, in AWAIT. -/
theorem zeroIntervalAlwaysFires : Obligations.ZeroIntervalAlwaysFires := by
  intro s hs h
  exact ⟨pollFire (pollSample s), by rw [exec_poll hs, pollEffect_of_interval_zero h], rfl, rfl⟩

/-! ## A block left to itself -/

/-- With no turn listed the step is the block's own move (R188, R279; log 1). -/
theorem step_of_no_turns {s : State} (h : s.turns = []) : step s = .next (blockEffect s.status.state (takeTurn s)) := by
  rw [step_eq_turnEffect, nextTurn, h, turnEffect]

/-- The count in the words of the statements: 1 more on OK, the same on ERR (R181, R182). -/
theorem countAnswer_eq_ite (a : HpiAnswer) (c : BitVec 64) : countAnswer a c = if a = .ok then c + 1#64 else c := by
  cases a <;> rfl

/-- Settles O41: the block fires, and then takes the answer. -/
theorem backToBackTransmission : Obligations.BackToBackTransmission := by
  intro s hs hinterval hturns
  have hfire : step s = .next (pollFire (pollSample (takeTurn s))) := by
    rw [step_of_no_turns hturns, hs, blockEffect, pollEffect_of_interval_zero (s := takeTurn s) hinterval]
  have hanswer := step_of_no_turns (s := pollFire (pollSample (takeTurn s))) (by simp [hturns])
  refine ⟨_, _, transmitAnswer (takeTurn (pollFire (pollSample (takeTurn s)))), hfire, hanswer, rfl, rfl, ?_, ?_,
    hinterval, ?_⟩
  · simp [blockEffect, frameFor]
  · simp [blockEffect, countAnswer_eq_ite]
  · simp [blockEffect, hturns]

end Sys2Proof.Machine
end

section
/-! O19 to O24: what a CTRL write does, ignored or run, and each outcome of SOLVE and START. -/

namespace Sys2Proof.Machine

/-! ## The CTRL write -/

/-- In IDLE a CTRL write runs its command after the response (R200). -/
theorem exec_command_idle {s : State} (hs : s.status.state = .idle) {i : Instr} {c : Command}
    (hi : opKind i = .command c) : exec i s = .next (runCommand c (s.respond 0x140#9 0#32)) := by
  rw [exec_eq_effect, hi, OpKind.effect, gatedWrite_idle hs]; rfl

/-- Outside IDLE a CTRL write is ignored, whatever its command (R200, R269). -/
theorem exec_command_ignored {s : State} (hs : s.status.state ≠ .idle) {i : Instr} {c : Command}
    (hi : opKind i = .command c) : exec i s = .next { s with
      status := { s.status with wign := true }, trace := s.trace ++ [.busResp 0x140#9 0#32 .okay] } := by
  rw [exec_eq_effect, hi, OpKind.effect, gatedWrite_ignored hs]; rfl

/-- Settles O19: all four operations carry a command, and outside IDLE it does not matter which. -/
theorem commandsOutsideIdleAreIgnored : Obligations.CommandsOutsideIdleAreIgnored := by
  intro s cw hs i hi
  obtain ⟨c, hc⟩ : ∃ c, opKind i = .command c := by
    simp only [List.mem_cons, List.not_mem_nil, or_false] at hi
    rcases hi with rfl | rfl | rfl | rfl
    exacts [⟨_, rfl⟩, ⟨_, rfl⟩, ⟨_, rfl⟩, ⟨_, rfl⟩]
  exact exec_command_ignored hs hc

/-- Settles O20: the command of NOP is the identity, and a CTRL write outside IDLE is ignored. -/
theorem nopHasNoEffect : Obligations.NopHasNoEffect :=
  fun _ => ⟨exec_command_idle (c := .nop) (hi := rfl), fun hs => exec_command_ignored hs rfl⟩

/-! ## The one writer of RESULT and FAULT -/

/-- A host error sets FAULT (R50, R266, R267). -/
theorem raiseResult_of_hostError {c : ResultCode} (hc : c.isHostError = true) (s : State) :
    s.raiseResult c = { s with status := { s.status with result := c, fault := true } } := by
  rw [State.raiseResult, hc, Bool.or_true]

/-- Any other code leaves FAULT as it was (R50). -/
theorem raiseResult_of_not_hostError {c : ResultCode} (hc : c.isHostError = false) (s : State) :
    s.raiseResult c = { s with status := { s.status with result := c } } := by
  rw [State.raiseResult, hc, Bool.or_false]

/-- Settles O21: the word decides the command, and a reserved one raises BAD_CMD. -/
theorem ctrlWriteRunsItsCommand : Obligations.CtrlWriteRunsItsCommand := by
  intro s cw hs
  have hrun {i : Instr} {c : Command} (hi : opKind i = .command c) (hc : decodeCmd cw = c) :
      exec i s = .next (runCommand (decodeCmd cw) (s.respond 0x140#9 0#32)) := by
    rw [hc, exec_command_idle hs hi]
  refine ⟨_, hrun rfl rfl, ?_, ?_, ?_, fun hreserved => ?_⟩
  · rintro rfl; exact hrun rfl rfl
  · rintro rfl; exact hrun rfl rfl
  · rintro rfl; exact hrun rfl rfl
  · obtain ⟨-, -, -, hreserved_iff⟩ := commandWordsDecode cw
    rw [hreserved_iff.mpr hreserved]
    exact raiseResult_of_hostError rfl _

/-! ## SOLVE -/

/-- Settles O22: SOLVE raises the code of the solver's result, and BadArg, the one host error among them, is its answer
exactly outside the contract. -/
theorem solveReportsTheSolverResult : Obligations.SolveReportsTheSolverResult := by
  intro s hs
  rw [exec_command_idle hs (i := .solve) rfl, runCommand, solveCmd, respond_clkHz, respond_bitrateHz, respond_spPct]
  refine ⟨fun p a b hr => ?_, fun hr => ?_, fun hout => ?_⟩
  · rw [hr, solveCode, raiseResult_of_not_hostError (c := .ok) rfl]; rfl
  · rw [hr, solveCode, raiseResult_of_not_hostError (c := .noSolution) rfl]; rfl
  · rw [(solverRejectsExactlyOutsideItsContract ..).mpr hout, solveCode,
      raiseResult_of_hostError (c := .badArg) rfl]; rfl

/-! ## START -/

/-- START's checks in the words of the rules (R205 to R207). -/
theorem startArgsBad_eq_false_iff_startChecksPass (s : State) : startArgsBad s = false ↔ StartChecksPass s := by
  rw [startArgsBad_eq_false_iff, argsBad_eq_false_iff_inContract, idFits_iff]; rfl

/-- A failed check is all START acts on (R205 to R207). -/
theorem startCmd_of_argsBad {s : State} (hbad : startArgsBad s = true) : startCmd s = { s with
    btc := 0#32, status := { s.status with result := .badArg, fault := true } } := by
  rw [startCmd, if_pos hbad, rejectArg, raiseResult_of_hostError (c := .badArg) rfl]

/-- A halt with a cause that is no host error leaves FAULT as it was (R50, R274). -/
theorem halt_of_not_hostError {c : ResultCode} (hc : c.isHostError = false) (s : State) :
    s.halt c = { s with status := { s.status with result := c, state := .halted } } := by
  rw [State.halt, raiseResult_of_not_hostError hc]; rfl

/-- START past its checks, where the solver has no solution (R208, R209). -/
theorem startCmd_of_noSolution {s : State} (hpass : startArgsBad s = false)
    (hr : solveFn s.clkHz s.bitrateHz s.spPct = .noSolution) : startCmd s = { s with
      btc := 0#32, status := { s.status with result := .noSolution, state := .halted }
      trace := s.trace ++ [.hpiInit] } := by
  simp only [startCmd, hpass, Bool.false_eq_true, if_false, emit_clkHz, emit_bitrateHz, emit_spPct, hr]
  exact halt_of_not_hostError rfl _

/-- START past its checks hands the solver's configuration to the HPI (R208, R210). -/
theorem startCmd_of_config {s : State} (hpass : startArgsBad s = false) {p a b : Nat}
    (hr : solveFn s.clkHz s.bitrateHz s.spPct = .config p a b) :
    startCmd s = startConfigure p a b { s.emit .hpiInit with btc := encBtc (.config p a b) } := by
  simp only [startCmd, hpass, Bool.false_eq_true, if_false, emit_clkHz, emit_bitrateHz, emit_spPct, hr]

/-- The HPI rejects the configuration: the block halts (R210). -/
theorem startConfigure_of_err {s : State} (ha : configureAnswer s = .err) (p a b : Nat) :
    startConfigure p a b s = { s with
      status := { s.status with result := .configRejected, state := .halted }
      trace := s.trace ++ [.hpiConfigureReq p a b, .hpiConfigureAns .err] } := by
  simp only [startConfigure, configureAnswer_emit, ha]
  rw [halt_of_not_hostError (c := .configRejected) rfl]
  simp [State.emit]

/-- The HPI takes the configuration: the schedule starts at the counter sample (R211). -/
theorem startConfigure_of_ok {s : State} (ha : configureAnswer s = .ok) (p a b : Nat) :
    startConfigure p a b s = { s with
      now := sampleCounter s, lastTick := sampleCounter s, elapsed := 0#32, frameCounter := 0#64
      status := { s.status with result := .ok, state := .await }
      trace := s.trace ++ [.hpiConfigureReq p a b, .hpiConfigureAns .ok] } := by
  simp only [startConfigure, configureAnswer_emit, ha, startSchedule]
  rw [raiseResult_of_not_hostError (c := .ok) rfl]
  simp [State.emit, State.setState, sampleCounter]

/-- Settles O23: the checks fail, and START goes no further. -/
theorem startRejectsBadArguments : Obligations.StartRejectsBadArguments := by
  intro s hs hfail
  have hbad : startArgsBad (s.respond 0x140#9 0#32) = true := by
    rw [← Bool.not_eq_false, startArgsBad_eq_false_iff_startChecksPass]
    exact hfail
  rw [exec_command_idle hs (i := .start) rfl, runCommand, startCmd_of_argsBad hbad]; rfl

/-- Settles O24, by the solver's answer and then the HPI's. -/
theorem startRunsTheStartUpSequence : Obligations.StartRunsTheStartUpSequence := by
  intro s hs hchecks
  have ⟨hcontract, _⟩ := hchecks
  have hpass : startArgsBad (s.respond 0x140#9 0#32) = false :=
    (startArgsBad_eq_false_iff_startChecksPass _).mpr hchecks
  rw [exec_command_idle hs (i := .start) rfl, runCommand]
  refine ⟨fun hr => ?_, fun hr => ?_, fun p a b hr => ⟨fun ha => ?_, fun ha => ?_⟩⟩
  · exact (solverRejectsExactlyOutsideItsContract ..).mp hr hcontract
  · rw [startCmd_of_noSolution hpass hr]
    simp
  · rw [startCmd_of_config hpass hr, startConfigure_of_err]
    · simp
    · exact ha
  · rw [startCmd_of_config hpass hr, startConfigure_of_ok]
    · simp [sampleCounter]
    · exact ha

end Sys2Proof.Machine
end

section
/-! O12 to O15: what each configuration write and each register read does, and the bits of the values reads return. -/

namespace Sys2Proof.Machine

/-! ## Configuration writes -/

/-- In IDLE a configuration write stores its data word after the response (R220). -/
theorem exec_write_idle {s : State} (hs : s.status.state = .idle) {i : Instr} (c : ConfigReg) {v : Word}
    (hi : opKind i = .write c v) : exec i s = .next (setConfig c v (s.respond (writeHeader c.reg) 0#32)) := by
  rw [exec_eq_effect, hi, OpKind.effect, writeConfig, gatedWrite_idle hs]

/-- Outside IDLE a configuration write is ignored, whatever its register and data word (R220, R269). -/
theorem exec_write_ignored {s : State} (hs : s.status.state ≠ .idle) {i : Instr} (c : ConfigReg) {v : Word}
    (hi : opKind i = .write c v) : exec i s = .next { s with
      status := { s.status with wign := true }
      trace := s.trace ++ [.busResp (writeHeader c.reg) 0#32 .okay] } := by
  rw [exec_eq_effect, hi, OpKind.effect, writeConfig, gatedWrite_ignored hs]; rfl

/-- Settles O12: the gate of every configuration write, open in IDLE and closed elsewhere, at each register. -/
theorem configurationWritesAreGated : Obligations.ConfigurationWritesAreGated := by
  intro s data
  refine ⟨fun hs => ⟨exec_write_idle hs .clkHz rfl, exec_write_idle hs .bitrateHz rfl,
    exec_write_idle hs .spPct rfl, exec_write_idle hs .interval rfl, exec_write_idle hs .frameId rfl,
    exec_write_idle hs .frameDlc rfl⟩, fun hs i hdr hmem => ?_⟩
  simp only [List.mem_cons, Prod.mk.injEq, List.not_mem_nil, or_false] at hmem
  rcases hmem with ⟨rfl, rfl⟩ | ⟨rfl, rfl⟩ | ⟨rfl, rfl⟩ | ⟨rfl, rfl⟩ | ⟨rfl, rfl⟩ | ⟨rfl, rfl⟩
  exacts [exec_write_ignored hs .clkHz rfl, exec_write_ignored hs .bitrateHz rfl, exec_write_ignored hs .spPct rfl,
    exec_write_ignored hs .interval rfl, exec_write_ignored hs .frameId rfl, exec_write_ignored hs .frameDlc rfl]

/-! ## Reads -/

/-- A read answers OKAY with its register's read value, in every state, and changes nothing (R86). -/
theorem exec_read (s : State) {i : Instr} (r : ReadReg) (hi : opKind i = .read r) : exec i s = .next { s with
    trace := s.trace ++ [.busResp (readHeader r.reg) (readVal r s) .okay] } := by
  rw [exec_eq_effect, hi]; rfl

/-- Settles O13: `exec_read` at each configuration register. -/
theorem configurationReadsReturnTheRegisters : Obligations.ConfigurationReadsReturnTheRegisters := fun s =>
  ⟨exec_read s (.config .clkHz) rfl, exec_read s (.config .bitrateHz) rfl, exec_read s (.config .spPct) rfl,
    exec_read s (.config .interval) rfl, exec_read s (.config .frameId) rfl, exec_read s (.config .frameDlc) rfl⟩

/-- The low W bits are kept, and every bit above them reads 0 (R40, R117). -/
theorem getLsbD_wBits (w : Nat) (v : Word) (k : Nat) :
    (wBits w v).getLsbD k = (decide (k < w) && v.getLsbD k) := by
  rw [wBits, BitVec.getLsbD_ofNat, Nat.testBit_mod_two_pow, BitVec.testBit_toNat]
  by_cases hk : k < 32
  · simp [hk]
  · simp [hk, BitVec.getLsbD_of_ge v k (Nat.le_of_not_lt hk)]

/-- FC_HI and FC_LO are the two halves of FRAME_COUNTER (R44). -/
theorem toNat_eq_halves (c : BitVec 64) :
    c.toNat = (c.extractLsb' 32 32).toNat * 2 ^ 32 + (c.extractLsb' 0 32).toNat := by
  have hc := c.isLt
  simp only [BitVec.extractLsb'_toNat]
  omega

/-- Settles O14: `exec_read` at each register, a tick register's value being its W bits. -/
theorem resultReadsReturnTheRegisters : Obligations.ResultReadsReturnTheRegisters := by
  intro s _
  refine ⟨exec_read s .btc rfl, fun i hdr v hmem => ?_,
    _, _, exec_read s .fcLo rfl, exec_read s .fcHi rfl, toNat_eq_halves s.frameCounter⟩
  have hread : exec i s = .next { s with trace := s.trace ++ [.busResp hdr (wBits s.args.w v) .okay] } := by
    simp only [List.mem_cons, Prod.mk.injEq, List.not_mem_nil, or_false] at hmem
    rcases hmem with ⟨rfl, rfl, rfl⟩ | ⟨rfl, rfl, rfl⟩ | ⟨rfl, rfl, rfl⟩
    exacts [exec_read s .lastTick rfl, exec_read s .now rfl, exec_read s .elapsed rfl]
  exact ⟨_, hread, getLsbD_wBits s.args.w v, wBits_eq_self⟩

/-! ## The fields of STATUS -/

/-- A one-bit field is the bit at its place. -/
theorem getLsbD_of_extractLsb'_one {v : Word} {k : Nat} {b : Bool} (h : v.extractLsb' k 1 = BitVec.ofBool b) :
    v.getLsbD k = b := by
  simpa using congrArg (BitVec.getLsbD · 0) h

/-- A field of the upper part of a concatenation, the lower part passed over. -/
theorem extractLsb'_append_of_upper {m n : Nat} {hi : BitVec m} {lo : BitVec n} {start len : Nat} {x : BitVec len}
    (h : hi.extractLsb' start len = x) : (hi ++ lo).extractLsb' (start + n) len = x := by
  rw [BitVec.extractLsb'_append_eq_of_le (Nat.le_add_left n start), Nat.add_sub_cancel, h]

open BitVec (extractLsb'_append_eq_right extractLsb'_eq_self) in
/-- The fields of the STATUS word, each at its place above the fields before it (R45). -/
theorem extractLsb'_statusWord (st : Status) :
    st.word.extractLsb' 0 2 = st.state.code ∧ st.word.extractLsb' 2 2 = 0#2 ∧
    st.word.extractLsb' 4 4 = st.result.code ∧ st.word.extractLsb' 8 1 = BitVec.ofBool st.dbg ∧
    st.word.extractLsb' 9 1 = BitVec.ofBool st.wign ∧ st.word.extractLsb' 10 1 = BitVec.ofBool st.fault ∧
    st.word.extractLsb' 11 21 = 0#21 :=
  have above {m n start len : Nat} {hi : BitVec m} {lo : BitVec n} {x : BitVec len} :=
    extractLsb'_append_of_upper (hi := hi) (lo := lo) (start := start) (x := x)
  ⟨extractLsb'_append_eq_right,
    above extractLsb'_append_eq_right,
    above <| above extractLsb'_append_eq_right,
    above <| above <| above extractLsb'_append_eq_right,
    above <| above <| above <| above extractLsb'_append_eq_right,
    above <| above <| above <| above <| above extractLsb'_append_eq_right,
    above <| above <| above <| above <| above <| above extractLsb'_eq_self⟩

/-- Settles O15: the value read is the STATUS word, and its fields are the codes of R46 and R47 and the flags. -/
theorem statusReadsItsFields : Obligations.StatusReadsItsFields := by
  intro s
  obtain ⟨hstate, hzero, hresult, hdbg, hwign, hfault, hhigh⟩ := extractLsb'_statusWord s.status
  refine ⟨s.status.word, exec_read s .status rfl, ?_, hzero, ?_, getLsbD_of_extractLsb'_one hdbg,
    getLsbD_of_extractLsb'_one hwign, getLsbD_of_extractLsb'_one hfault, hhigh⟩
  · rw [hstate]; cases s.status.state <;> rfl
  · rw [hresult]; cases s.status.result <;> rfl

end Sys2Proof.Machine
end

section
/-! O8 and O48: a step always answers, and from HALTED it only responds and sets WIGN until reset. -/

namespace Sys2Proof.Machine

/-- Settles O8: a step is the effect of its turn, and that is a state. -/
theorem everyStepAnswersNext : Obligations.EveryStepAnswersNext := fun s => ⟨_, step_eq_turnEffect s⟩

/-- Outside IDLE a host transaction, legal or not, changes no register but WIGN and emits its response alone
(R86, R262, R269). -/
theorem hostEffect_outside_idle {s : State} (hs : s.status.state ≠ .idle) (hdr : Header) (data : Word) :
    ∃ wign v r, hostEffect hdr data s = { s with
      status := { s.status with wign := wign }, trace := s.trace ++ [.busResp hdr v r] } := by
  unfold hostEffect
  cases hd : decodeBus hdr data with
  | error e => exact ⟨s.status.wign, 0#32, .slverr, rfl⟩
  | ok i =>
    suffices h : ∃ wign v r, exec i s = .next { s with
        status := { s.status with wign := wign }, trace := s.trace ++ [.busResp hdr v r] } by
      simpa [exec_eq_effect] using h
    obtain ⟨r, ⟨rfl, hw⟩ | ⟨rfl, hr⟩⟩ := decodeBus_ok_cases hd
    · refine ⟨true, 0#32, .okay, ?_⟩
      rcases exec_of_decodeWrite hw s with ⟨rfl, hx⟩ | ⟨c, rfl, hx⟩
      · rw [hx, gatedWrite_ignored hs]; rfl
      · rw [hx, writeConfig, gatedWrite_ignored hs]; rfl
    · obtain ⟨c, rfl, hx⟩ := exec_of_decodeRead hr s
      exact ⟨s.status.wign, readVal c s, .okay, hx⟩

/-- A step from HALTED that is no reset takes its turn, may set WIGN, and appends at most a bus response (R280). -/
theorem step_halted {s t : State} (hs : s.status.state = .halted) (h : step s = .next t)
    (hreset : nextTurn s ≠ .reset) : ∃ wign es, (∀ e ∈ es, e.isBus = true) ∧
      t = { takeTurn s with status := { s.status with wign := wign }, trace := s.trace ++ es } := by
  rw [step_eq_turnEffect, Host.Outcome.next.injEq] at h
  cases hn : nextTurn s with
  | host hdr data d =>
    have hidle : (takeTurn s).status.state ≠ .idle := by simp [hs]
    obtain ⟨wign, v, r, heffect⟩ := hostEffect_outside_idle hidle hdr data
    refine ⟨wign, [.busResp hdr v r], by simp [Event.isBus], ?_⟩
    rw [← h, hn, turnEffect, heffect]; rfl
  | block d =>
    refine ⟨s.status.wign, [], by simp, ?_⟩
    rw [← h, hn, hs, List.append_nil]; rfl
  | reset => exact absurd hn hreset

/-- Settles O48: the state after the step, read field by field. -/
theorem haltedIsPermanent : Obligations.HaltedIsPermanent := by
  intro s t hs hdbg h hreset
  obtain ⟨wign, es, hbus, rfl⟩ := step_halted hs h hreset
  exact ⟨⟨wign, s.trace ++ es, rfl⟩, hs, hdbg, es, rfl, hbus⟩

end Sys2Proof.Machine
end

section
/-! O10, O11, O18, O39 and O42: reset, and the hazards of the 64-bit counter read and of the polling gap. -/

namespace Sys2Proof.Machine

/-! ## Reset -/

/-- A reset turn's step is the reset, whatever the state (R300). -/
theorem step_of_reset_turn {s : State} {rest : List Turn} (h : s.turns = .reset :: rest) :
    step s = .next (resetBlock (takeTurn s)) := by
  rw [step_eq_turnEffect, nextTurn_of_turns h, turnEffect]

/-- A block turn's step is the move STATE enables (R116). -/
theorem step_of_block_turn {s : State} {d : Draws} {rest : List Turn} (h : s.turns = .block d :: rest) :
    step s = .next (blockEffect s.status.state (takeTurn s)) := by
  rw [step_eq_turnEffect, nextTurn_of_turns h, turnEffect]

/-- STATUS reads as 0 after reset (R45). -/
theorem status_reset_word : Status.reset.word = 0x0000_0000#32 := by decide

/-- Settles O10: the reset's registers, read field by field. -/
theorem resetPutsEveryRegisterAtItsResetValue : Obligations.ResetPutsEveryRegisterAtItsResetValue := by
  intro s rest h
  refine ⟨_, step_of_reset_turn h, rfl, rfl, rfl, rfl, rfl, rfl, rfl, rfl, rfl, rfl, rfl, status_reset_word,
    rfl, rfl, rfl, rfl, rfl, rfl, ?_⟩
  simp [h]

/-- Settles O11: reset leaves STATE in IDLE, where a move of the block has no effect. -/
theorem resetAbandonsTheTransmit : Obligations.ResetAbandonsTheTransmit := by
  intro s d rest _ h
  have hturns : (resetBlock (takeTurn s)).turns = .block d :: rest := by simp [h]
  exact ⟨_, _, step_of_reset_turn h, step_of_block_turn hturns, rfl, rfl, rfl, rfl⟩

/-- Every register at its reset value, and a W the spec allows, make the invariants hold (R300, R303). -/
theorem reset_inv : Inv State.reset where
  args_wf := by decide
  ticks_fit := by decide
  dbg_iff_transmit := by decide
  pending_iff_transmit := by decide
  pending_is_frame := by intro f h; cases h
  running_result := by decide
  running_btc := fun h => absurd h (by decide)
  running_checked := fun h => absurd h (by decide)
  halted_cause := fun h => absurd h (by decide)
  rejected_halts := by decide
  btc_legal := .inl rfl
  result_ok := fun h => absurd h (by decide)
  result_zero := fun _ => rfl
  host_error_fault := by decide
  unstarted_schedule := fun _ => ⟨rfl, rfl, rfl, rfl⟩

/-- A trace with no event in it requests no frame. -/
theorem framesNumbered_of_trace_nil {s : State} (h : s.trace = []) : FramesNumbered s := by
  intro pre f post hsplit
  simp [h] at hsplit

/-- Settles O42: nothing has been emitted and no START has entered the schedule. -/
theorem resetStateSatisfiesTheInvariants : Obligations.ResetStateSatisfiesTheInvariants :=
  ⟨reset_inv, ⟨.fresh, rfl, rfl⟩, .of_unstarted (.inl rfl), framesNumbered_of_trace_nil rfl⟩

/-! ## The tear-safe read of FRAME_COUNTER -/

/-- A read header reads its register (R113). -/
theorem hostEffect_readHeader (r : ReadReg) (x : Word) : hostEffect (readHeader r.reg) x = readReg r := by
  cases r with
  | config c => exact hostEffect_readHeader_config c x
  | _ => rfl

/-- Taking a turn leaves the read value of every register as it was. -/
@[simp] theorem readVal_takeTurn (r : ReadReg) (s : State) : readVal r (takeTurn s) = readVal r s := by
  cases r with
  | config c => exact configVal_takeTurn c s
  | _ => rfl

/-- A turn that reads a register answers its value, leaves FRAME_COUNTER, and is then over (R86, R227 to R239). -/
theorem read_turn_spec {s t : State} (r : ReadReg) {v x : Word} {d : Draws} {rest : List Turn}
    (hturns : s.turns = .host (readHeader r.reg) x d :: rest) (hstep : step s = .next t)
    (htrace : t.trace = s.trace ++ [.busResp (readHeader r.reg) v .okay]) :
    v = readVal r s ∧ t.frameCounter = s.frameCounter ∧ t.turns = rest := by
  rw [step_of_host_turn hturns, hostEffect_readHeader, Host.Outcome.next.injEq] at hstep
  subst hstep
  have hv : readVal r s = v := by simpa using htrace
  exact ⟨hv.symm, by simp, by simp [hturns]⟩

/-- `c'` is `c`, or the count after it (R181). -/
def CountedAtMostOnce (c c' : BitVec 64) : Prop := c' = c ∨ c' = c + 1#64

/-- A move of the block counts at most one transmission, and takes no turn of the list (R181). -/
theorem blockEffect_spec (b : BlockState) (s : State) :
    CountedAtMostOnce s.frameCounter (blockEffect b s).frameCounter ∧ (blockEffect b s).turns = s.turns := by
  cases b with
  | await => rcases pollEffect_cases s with ⟨-, h⟩ | ⟨-, h⟩ <;> simp [blockEffect, h, CountedAtMostOnce]
  | transmit => cases ha : transmitAnswer s <;> simp [blockEffect, ha, countAnswer, CountedAtMostOnce]
  | idle | halted => exact ⟨.inl rfl, rfl⟩

/-- A block turn counts at most one transmission, and is then over. -/
theorem block_turn_spec {s t : State} {d : Draws} {rest : List Turn} (hturns : s.turns = .block d :: rest)
    (hstep : step s = .next t) : CountedAtMostOnce s.frameCounter t.frameCounter ∧ t.turns = rest := by
  rw [step_of_block_turn hturns, Host.Outcome.next.injEq] at hstep
  subst hstep
  obtain ⟨hcount, hrest⟩ := blockEffect_spec s.status.state (takeTurn s)
  exact ⟨hcount, by simp [hrest, hturns]⟩

/-- A count's value in plain arithmetic. -/
theorem CountedAtMostOnce.exists_toNat_eq {c c' : BitVec 64} (h : CountedAtMostOnce c c') :
    ∃ k ≤ 1, c'.toNat = (c.toNat + k) % 2 ^ 64 := by
  rcases h with rfl | rfl
  · exact ⟨0, by omega, by rw [Nat.add_zero, Nat.mod_eq_of_lt c'.isLt]⟩
  · exact ⟨1, le_rfl, BitVec.toNat_add ..⟩

/-- Where two counts leave the high half as it was, so did the first: two counts are too few to carry the high half all
the way round. -/
theorem high_half_between {c c' c'' : BitVec 64} (h : CountedAtMostOnce c c') (h' : CountedAtMostOnce c' c'')
    (hhigh : c.extractLsb' 32 32 = c''.extractLsb' 32 32) : c.extractLsb' 32 32 = c'.extractLsb' 32 32 := by
  obtain ⟨j, hj, hc'⟩ := h.exists_toNat_eq
  obtain ⟨k, hk, hc''⟩ := h'.exists_toNat_eq
  have hc := c.isLt
  simp only [← BitVec.toNat_inj, BitVec.extractLsb'_toNat, Nat.shiftRight_eq_div_pow] at hhigh ⊢
  omega

/-- Settles O18, turn by turn: the counter at the low read lies between those at the two high reads. -/
theorem tearSafeReadIsTheCounter : Obligations.TearSafeReadIsTheCounter := by
  intro s a b c e f h1 l h2 x1 x2 x3 d1 d2 d3 d4 d5 rest hturns hsa hab hbc hce hef hhi1 hlo hhi2 heq
  obtain ⟨hh1, has, hturns⟩ := read_turn_spec .fcHi hturns hsa hhi1
  obtain ⟨hcountb, hturns⟩ := block_turn_spec hturns hab
  obtain ⟨hl, hcb, hturns⟩ := read_turn_spec .fcLo hturns hbc hlo
  obtain ⟨hcounte, hturns⟩ := block_turn_spec hturns hce
  obtain ⟨hh2, -, -⟩ := read_turn_spec .fcHi hturns hef hhi2
  rw [has] at hcountb
  rw [hcb] at hcounte
  have hhigh : h1 = b.frameCounter.extractLsb' 32 32 :=
    hh1.trans (high_half_between hcountb hcounte (hh1.symm.trans (heq.trans hh2)))
  rw [hhigh, hl, hcb]
  exact BitVec.extractLsb'_append_extractLsb'

/-! ## The polling gap -/

/-- A POLL in AWAIT that finds INTERVAL ticks elapsed fires (R173, R174). -/
theorem exec_poll_of_interval_le {s : State} (hs : s.status.state = .await)
    (h : s.interval.toNat ≤ (elapsedTicks s.args.w (sampleCounter s) s.lastTick).toNat) :
    exec .poll s = .next (pollFire (pollSample s)) := by
  rw [exec_poll hs, pollEffect, if_neg (by simpa [BitVec.lt_def] using h)]

/-- Settles O39: within the gap the true ticks stay below 2^W, where ELAPSED shows them. -/
theorem pollingGapBoundSuffices : Obligations.PollingGapBoundSuffices := by
  intro s c before ticks gap hs hw hlast hbefore hgap hbound hdue hsample
  obtain ⟨-, hw⟩ := hw
  have hticks : ticks < 2 ^ s.args.w := by omega
  have helapsed : (elapsedTicks s.args.w (sampleCounter s) s.lastTick).toNat = ticks := by
    rw [hsample, hlast, elapsedTicks_of_ticks hw c hticks]
  exact ⟨hticks, _, exec_poll_of_interval_le hs (by rwa [helapsed]), helapsed, rfl⟩

end Sys2Proof.Machine
end
